-- ==== Sys2Proof/Word.lean ====
section
/-! DEFINITION. The 16-bit word of both links and of the table banks (spec/11, "Frame and Record Layouts"). -/

namespace Sys2Proof

/-- A word: bit 15 is the most significant bit, bit 0 the least. -/
abbrev Word := BitVec 16

end Sys2Proof
end

