-- ==== Sys2Proof/Syntax.lean ====
section
/-! DEFINITION. The commands: one constructor for each row of spec/opcode_table.json, in the table's order. -/

namespace Sys2Proof

/-- The two serial links. -/
inductive Link where
  | m
  | c
  deriving DecidableEq, Repr

/-- What ended at RESET_HOLD_END (R168): the supply reached its operating level, or RESET_N returned high. -/
inductive HoldEnd where
  | supplyReached
  | resetLineHigh
  deriving DecidableEq, Repr

/-- What may fall inside the handling of an arrival, between two things the blocks do with it (R155, R72, R98, R168,
log 10). -/
inductive Aside where
  /-- R155: the service of the request at the head of the queue. -/
  | serve
  /-- R98: MON2..MON0 at a new level. -/
  | monStraps (level : BitVec 3)
  /-- R3, R5, R153: a frame received on link M. -/
  | linkMFrame (frame : List Word)
  /-- R100, R101: a frame received on link C. -/
  | linkCFrame (frame : List Word)
  /-- R102: an edge on CBLK, to `high`. -/
  | cblkEdge (high : Bool)
  /-- R4, R105: a receiver loses signal. -/
  | lossOfSignal (link : Link) (midFrame : Bool)
  /-- R4, R105: a receiver gains frame synchronisation. -/
  | syncRegained (link : Link)
  /-- R121: the digest of a CLONE in service is formed. -/
  | cloneCompletion
  /-- R122: the digest of a COMMIT_SWAP in service is formed. -/
  | commitCompletion
  /-- R129: an audit completes. -/
  | auditCompletion
  /-- R179: 100 µs have passed since the latest record entered. -/
  | attentionPulseEnd
  /-- R168: supply start, which abandons the arrival. -/
  | powerOn
  /-- R168: RESET_N driven low, which abandons the arrival. -/
  | hardReset
  deriving DecidableEq, Repr

/-- What falls between two things the blocks do with one released set (R29, R35, R52, R95), at each place in its order. -/
structure SetAsides where
  /-- After the release check, before the set is formed. -/
  checked : List Aside := []
  /-- Before intake's update (R35, step 1). -/
  formed : List Aside := []
  /-- Before the last released count is set (R35, step 2). -/
  updated : List Aside := []
  /-- Before the tracker handles the set. -/
  noted : List Aside := []
  /-- Before the windows are fed. -/
  tracked : List Aside := []
  /-- Before the composer's snapshot (R72). -/
  fed : List Aside := []
  /-- Between the snapshot and the building of the reference frame. -/
  composed : List Aside := []
  /-- While the reference frame is being sent, after its building and before its last word has left (R95). -/
  framed : List Aside := []
  /-- Between the frame sent and the closing of the cycle it ends, or the next release check. -/
  sent : List Aside := []
  /-- Between the closing of a cycle and its boundary (R52). -/
  closed : List Aside := []
  deriving DecidableEq, Repr

/-- A command: one whole and indivisible step of the part (spec/95). A frame is given as the words received between
its start and its end (R191); a service command takes its request from the head of the request queue (R155). -/
inductive Instr where
  /-- R168: supply start. It may fall inside the service of the WRITE_TABLE at the head of the queue (R132, log 31). -/
  | powerOn
  /-- R168: RESET_N driven low. It may fall inside the service of the WRITE_TABLE at the head of the queue (R132,
  log 31). -/
  | hardReset
  /-- R168, R153: the supply reaches its level or RESET_N returns high, with ADDR5..ADDR0 at `straps`. -/
  | resetHoldEnd (cause : HoldEnd) (straps : BitVec 6)
  /-- R170: the self-test completes. -/
  | selfTest
  /-- R4, R105: a receiver loses signal; `midFrame` says that a frame was being received. -/
  | lossOfSignal (link : Link) (midFrame : Bool)
  /-- R4, R105: a receiver gains frame synchronisation. -/
  | syncRegained (link : Link)
  /-- R2: a frame received on link M that fails the tests. -/
  | malformedFrame (frame : List Word)
  /-- R5: a sample frame received on link M. -/
  | sampleFrame (frame : List Word)
  /-- R21: the ring takes the oldest waiting arrival; `sets` says, for each set its cascade releases in turn, what
  falls inside its handling (R155, log 10); with none left, nothing does. -/
  | arrival (sets : List SetAsides)
  /-- R101: a converter status frame received on link C. -/
  | converterStatusFrame (frame : List Word)
  /-- R100: a frame received on link C that fails the tests. -/
  | linkCMalformedFrame (frame : List Word)
  /-- R102: an edge on CBLK, to `high`. -/
  | cblkEdge (high : Bool)
  /-- R129: an audit completes. -/
  | auditCompletion
  /-- R179: 100 µs have passed since the latest record entered. -/
  | attentionPulseEnd
  /-- R153: a request frame received on link M. -/
  | requestFrame (frame : List Word)
  | echo
  | readStatus
  | readTable
  | writeTable
  | clone
  | cloneCompletion
  | commitSwap
  | commitCompletion
  | cancelSwap
  | readEvents
  | readHealth
  | setMonitor
  | wake
  | clearTrip
  | inject
  | injectClear
  | setThreshold
  | setAttentionMode
  | resetController
  | softReset
  | setCode
  | clearCode
  | unlock
  | lock
  | freeze
  | unknownRequest
  deriving DecidableEq, Repr

/-- All that falls inside the handling of one released set. -/
def SetAsides.all (x : SetAsides) : List Aside :=
  x.checked ++ x.formed ++ x.updated ++ x.noted ++ x.tracked ++ x.fed ++ x.composed ++ x.framed ++ x.sent ++ x.closed

/-- All that falls inside a command; nothing falls inside any but ARRIVAL. -/
def Instr.asides : Instr → List Aside
  | .arrival sets => sets.flatMap SetAsides.all
  | _ => []

end Sys2Proof
end

