-- ==== Sys2Proof/Machine/Arith.lean ====
section
/-! DEFINITION. The numeric conventions of R1 and the bit fields of a word. -/

namespace Sys2Proof.Machine

/-- A value in internal units, or an exact intermediate (R1). -/
abbrev Iu := Int

/-- A named clamp into `lo..hi`. -/
def clampInt (lo hi x : Int) : Int := if x < lo then lo else if hi < x then hi else x

/-- R1: to saturate is to clamp into −32767..+32767. -/
def saturate (x : Int) : Iu := clampInt (-32767) 32767 x

/-- R1: a rounded shift by `k`, halves away from zero. -/
def roundedShift (k : Nat) (x : Int) : Int :=
  if k = 0 then x
  else
    let m : Int := ((x.natAbs + 2 ^ (k - 1)) / 2 ^ k : Nat)
    if x < 0 then -m else m

/-- R1: truncating division, the fraction discarded toward zero. -/
def truncDiv (x y : Int) : Int := x.tdiv y

/-- R1: the magnitude estimate, the larger magnitude plus half the smaller. -/
def magnitude (x y : Int) : Nat := max x.natAbs y.natAbs + min x.natAbs y.natAbs / 2

/-- A counter that stops at 65535 (R9, R152, R182), raised by `n`. -/
def countUp (n c : Nat) : Nat := min 65535 (c + n)

/-- Bits `lo + len − 1 .. lo` of a word, unsigned. -/
def bitField (lo len : Nat) (w : Word) : Nat := w.toNat / 2 ^ lo % 2 ^ len

/-- The word with bits `lo + len − 1 .. lo` replaced by `v`. -/
def putField (lo len v : Nat) (w : Word) : Word :=
  BitVec.ofNat 16 (w.toNat - bitField lo len w * 2 ^ lo + v * 2 ^ lo)

/-- Bit `n` of a word. -/
def bitAt (n : Nat) (w : Word) : Bool := bitField n 1 w == 1

/-- One bit placed at position `n`. -/
def bitWord (n : Nat) (b : Bool) : Word := if b then BitVec.ofNat 16 (2 ^ n) else 0

/-- A count as a word. -/
def wordOf (n : Nat) : Word := BitVec.ofNat 16 n

/-- A signed value as a two's complement word. -/
def signedWord (x : Int) : Word := BitVec.ofInt 16 x

/-- R194: the signed 24-bit value of a high and a low word. -/
def value24 (hi lo : Word) : Int :=
  let n : Nat := bitField 0 8 hi * 65536 + lo.toNat
  if n < 8388608 then n else (n : Int) - 16777216

/-- R42, R58: α and β of three phase values, each a rounded shift by 15, then saturated. -/
def clarkeAlpha (a b c : Iu) : Iu := saturate (roundedShift 15 ((2 * a - b - c) * 10923))

@[inherit_doc clarkeAlpha]
def clarkeBeta (b c : Iu) : Iu := saturate (roundedShift 15 ((b - c) * 18919))

end Sys2Proof.Machine
end

