-- ==== Sys2Proof/Machine/Tables.lean ====
section
/-! DEFINITION. The six tables of a bank: stored words, what WRITE_TABLE stores, what the blocks read, the factory
contents and the digest (R110 to R115, R118, R123, R130, R190, R195). -/

namespace Sys2Proof.Machine

/-- The six tables of a bank (spec/07, "What a bank holds"). -/
inductive TableId where
  | sine | source | profile | control | term | report
  deriving DecidableEq, Repr

/-- The table identifiers of R190's section: 1 SINE to 6 REPORT; any other value names no table. -/
def TableId.ofWord (w : Word) : Option TableId :=
  match w.toNat with
  | 1 => some .sine
  | 2 => some .source
  | 3 => some .profile
  | 4 => some .control
  | 5 => some .term
  | 6 => some .report
  | _ => none

/-- The identifier of a table. -/
def TableId.code : TableId → Nat
  | .sine => 1
  | .source => 2
  | .profile => 3
  | .control => 4
  | .term => 5
  | .report => 6

/-- Number of entries of a table. -/
def TableId.entries : TableId → Nat
  | .sine => 256
  | .source => 8
  | .profile => 6
  | .control => 21
  | .term => 4
  | .report => 15

/-- Words per entry of a table. -/
def TableId.entryWords : TableId → Nat
  | .source => 4
  | .profile => 4
  | .term => 2
  | _ => 1

/-- A bank: its six tables as the words stored, ignored bits included (R115, R195). -/
structure Bank where
  sineWords : Vector Word 256
  sourceWords : Vector Word 32
  profileWords : Vector Word 24
  controlWords : Vector Word 21
  termWords : Vector Word 8
  reportWords : Vector Word 15
  deriving DecidableEq, Repr

/-- The words of one table, in entry order. -/
def Bank.words (b : Bank) : TableId → List Word
  | .sine => b.sineWords.toList
  | .source => b.sourceWords.toList
  | .profile => b.profileWords.toList
  | .control => b.controlWords.toList
  | .term => b.termWords.toList
  | .report => b.reportWords.toList

/-- The canonical image of R115: 356 words. -/
def Bank.image (b : Bank) : List Word :=
  b.words .sine ++ b.words .source ++ b.words .profile ++ b.words .control ++ b.words .term ++ b.words .report

/-- R115: rotate left by one place, then add the word. -/
def digestStep (d w : Word) : Word := d.rotateLeft 1 + w

/-- R115: the digest of a sequence of words. -/
def digest (ws : List Word) : Word := ws.foldl digestStep 0

/-- R115: the digest of a bank. -/
def Bank.digest (b : Bank) : Word := Machine.digest b.image

/-- The words of entry `i` of a table, as stored; empty past the end. -/
def Bank.entry (b : Bank) (t : TableId) (i : Nat) : List Word :=
  ((b.words t).drop (i * t.entryWords)).take t.entryWords

/-- `ws` put at `at`, `at + 1`, … of a table's words. -/
def putWords {n : Nat} (v : Vector Word n) (at' : Nat) : List Word → Vector Word n
  | [] => v
  | w :: ws => putWords (v.setIfInBounds at' w) (at' + 1) ws

/-- A bank with entry `i` of a table replaced whole by its words (R118). -/
def Bank.setEntry (b : Bank) (t : TableId) (i : Nat) (ws : List Word) : Bank :=
  let k := i * t.entryWords
  match t with
  | .sine => { b with sineWords := putWords b.sineWords k ws }
  | .source => { b with sourceWords := putWords b.sourceWords k ws }
  | .profile => { b with profileWords := putWords b.profileWords k ws }
  | .control => { b with controlWords := putWords b.controlWords k ws }
  | .term => { b with termWords := putWords b.termWords k ws }
  | .report => { b with reportWords := putWords b.reportWords k ws }

/-- A word of a vector of words (0 past the end, which no caller asks for). -/
def wordAt {n : Nat} (v : Vector Word n) (i : Nat) : Word := v[i]?.getD 0

/-! ### CONTROL parameters (R113) -/

/-- The 21 parameters of R113, in index order. -/
inductive Param where
  | nominalFrequency | window | releaseLag | pllKp | pllKi | lockBand | sagLevel | rating | bias | lead | ovLevel
  | ovCap | ovLimit | derate | quietCycles | fluctBand | staleSets | thermalClear | recoverSets | healthInterval
  | auditCycles
  deriving DecidableEq, Repr

/-- The index of a parameter in CONTROL. -/
def Param.index : Param → Nat
  | .nominalFrequency => 0
  | .window => 1
  | .releaseLag => 2
  | .pllKp => 3
  | .pllKi => 4
  | .lockBand => 5
  | .sagLevel => 6
  | .rating => 7
  | .bias => 8
  | .lead => 9
  | .ovLevel => 10
  | .ovCap => 11
  | .ovLimit => 12
  | .derate => 13
  | .quietCycles => 14
  | .fluctBand => 15
  | .staleSets => 16
  | .thermalClear => 17
  | .recoverSets => 18
  | .healthInterval => 19
  | .auditCycles => 20

/-- All parameters, in index order. -/
def Param.all : List Param :=
  [.nominalFrequency, .window, .releaseLag, .pllKp, .pllKi, .lockBand, .sagLevel, .rating, .bias, .lead, .ovLevel,
    .ovCap, .ovLimit, .derate, .quietCycles, .fluctBand, .staleSets, .thermalClear, .recoverSets, .healthInterval,
    .auditCycles]

/-- Whether a parameter is enumerated with codes 0 and 1 (R113). -/
def Param.enumerated : Param → Bool
  | .nominalFrequency => true
  | .window => true
  | .ovLimit => true
  | _ => false

/-- The lowest value of a parameter's range (R113). -/
def Param.lo : Param → Int
  | .releaseLag => 1
  | .lockBand => 1
  | .bias => -32767
  | .derate => 64
  | .fluctBand => 1
  | .staleSets => 16
  | .thermalClear => 1
  | .recoverSets => 1
  | .healthInterval => 50
  | .auditCycles => 16
  | _ => 0

/-- The highest value of a parameter's range (R113). -/
def Param.hi : Param → Int
  | .nominalFrequency => 1
  | .window => 1
  | .releaseLag => 8
  | .pllKp => 255
  | .pllKi => 255
  | .lockBand => 8192
  | .sagLevel => 32767
  | .rating => 32767
  | .bias => 32767
  | .lead => 15
  | .ovLevel => 32767
  | .ovCap => 32767
  | .ovLimit => 1
  | .derate => 256
  | .quietCycles => 65535
  | .fluctBand => 8192
  | .staleSets => 1024
  | .thermalClear => 15
  | .recoverSets => 255
  | .healthInterval => 5000
  | .auditCycles => 4096

/-- The factory value of a parameter (R113). -/
def Param.factory : Param → Int
  | .nominalFrequency => 0
  | .window => 1
  | .releaseLag => 3
  | .pllKp => 64
  | .pllKi => 8
  | .lockBand => 410
  | .sagLevel => 5734
  | .rating => 8192
  | .bias => 0
  | .lead => 2
  | .ovLevel => 9011
  | .ovCap => 4096
  | .ovLimit => 1
  | .derate => 192
  | .quietCycles => 0
  | .fluctBand => 41
  | .staleSets => 128
  | .thermalClear => 4
  | .recoverSets => 8
  | .healthInterval => 500
  | .auditCycles => 256

/-- The number a CONTROL word carries: BIAS signed, every other parameter unsigned. -/
def Param.carried (p : Param) (w : Word) : Int := if p = .bias then w.toInt else (w.toNat : Int)

/-- R130: a numeric word read clamped, an undefined code read as the factory value. -/
def Param.readWord (p : Param) (w : Word) : Int :=
  if p.enumerated then if p.carried w = 0 ∨ p.carried w = 1 then p.carried w else p.factory
  else clampInt p.lo p.hi (p.carried w)

/-- R118, R195: the stored form of a CONTROL word; none for an undefined code. -/
def Param.storeWord (p : Param) (w : Word) : Option Word :=
  if p.enumerated then if p.carried w = 0 ∨ p.carried w = 1 then some w else none
  else some (signedWord (clampInt p.lo p.hi (p.carried w)))

/-- A parameter as the blocks read it (R113, R130). -/
def Bank.param (b : Bank) (p : Param) : Int := p.readWord (wordAt b.controlWords p.index)

/-- A parameter that is a count. -/
def Bank.count (b : Bank) (p : Param) : Nat := (b.param p).toNat

/-- The sample count modulus M: 3200 at 50 Hz and 3840 at 60 Hz (R5). -/
def Bank.modulus (b : Bank) : Nat := if b.param .nominalFrequency = 0 then 3200 else 3840

/-- The window length W: 32 at code 0, 64 at code 1 (R56). -/
def Bank.windowLength (b : Bank) : Nat := if b.param .window = 0 then 32 else 64

/-! ### SINE (R110) -/

/-- A SINE word as read: −32768 is read as −32767 (R130). -/
def readSine (w : Word) : Iu := clampInt (-32767) 32767 w.toInt

/-- The sine value at an angle index (R43). -/
def Bank.sine (b : Bank) (i : Nat) : Iu := readSine (wordAt b.sineWords (i % 256))

/-- The cosine value at an angle index: the SINE entry at (i + 64) mod 256 (R43). -/
def Bank.cosine (b : Bank) (i : Nat) : Iu := b.sine (i + 64)

/-! ### SOURCE (R111) -/

/-- The roles of a source record. -/
inductive Role where
  | voltageMain | voltageStandby | feeder
  deriving DecidableEq, Repr

/-- A source record as the blocks read it. -/
structure SourceRecord where
  enabled : Bool
  ident : Word
  role : Role
  feeder : Fin 6
  gain : Nat
  shift : Nat
  holdLimit : Nat
  acceptTest : Bool
  deriving DecidableEq, Repr

/-- R130: the undefined role code 3 is read as the factory role, FEEDER. -/
def readRole (code : Nat) : Role :=
  match code with
  | 0 => .voltageMain
  | 1 => .voltageStandby
  | _ => .feeder

/-- A feeder number read clamped into 0..5. -/
def readFeeder (n : Nat) : Fin 6 := ⟨min n 5, by omega⟩

/-- The record four words hold, each field read as R130 gives. -/
def readSourceRecord (w0 w1 w2 w3 : Word) : SourceRecord where
  enabled := bitAt 15 w1
  ident := w0
  role := readRole (bitField 12 2 w1)
  feeder := readFeeder (bitField 0 3 w1)
  gain := max 1 w2.toNat
  shift := min 24 (bitField 8 5 w3)
  holdLimit := max 1 (bitField 0 4 w3)
  acceptTest := bitAt 14 w1

/-- A record of a bank, field by field. -/
def Bank.storedSource (b : Bank) (k : Nat) : SourceRecord :=
  readSourceRecord (wordAt b.sourceWords (4 * k)) (wordAt b.sourceWords (4 * k + 1)) (wordAt b.sourceWords (4 * k + 2))
    (wordAt b.sourceWords (4 * k + 3))

/-- R123: the conflicts of two enabled source records. -/
def SourceRecord.conflictsWith (r q : SourceRecord) : Bool :=
  r.ident == q.ident || (r.role == .voltageMain && q.role == .voltageMain)
    || (r.role == .voltageStandby && q.role == .voltageStandby)
    || (r.role == .feeder && q.role == .feeder && r.feeder == q.feeder)

/-- Whether a record conflicts with an enabled record among `lower`. -/
def SourceRecord.conflictsBelow (r : SourceRecord) (lower : List SourceRecord) : Bool :=
  r.enabled && lower.any fun q => q.enabled && r.conflictsWith q

/-- R130: records taken in index order, one that conflicts with an enabled record of lower index read as not enabled
(log 14: a lower record already read as not enabled no longer counts). -/
def readInOrder (lower : List SourceRecord) : List SourceRecord → List SourceRecord
  | [] => []
  | r :: rest =>
    let r' := if r.conflictsBelow lower then { r with enabled := false } else r
    r' :: readInOrder (lower ++ [r']) rest

/-- The source indices 0..7. -/
def sourceIndices : List (Fin 8) := [0, 1, 2, 3, 4, 5, 6, 7]

/-- The feeder numbers 0..5. -/
def feederNumbers : List (Fin 6) := [0, 1, 2, 3, 4, 5]

/-- The eight records, field by field. -/
def Bank.storedSources (b : Bank) : List SourceRecord := sourceIndices.map fun k => b.storedSource k.val

/-- The eight records as the blocks read them (R130). -/
def Bank.sources (b : Bank) : List SourceRecord := readInOrder [] b.storedSources

/-- The record at a source index as the blocks read it. -/
def Bank.source (b : Bank) (k : Fin 8) : SourceRecord := (b.sources)[k.val]?.getD (readSourceRecord 0 0 0 0)

/-- The enabled FEEDER record assigned to a feeder number (R14, R68). -/
def Bank.feederSource (b : Bank) (n : Fin 6) : Option (Fin 8) :=
  sourceIndices.find? fun k => (b.source k).enabled && (b.source k).role == .feeder && (b.source k).feeder == n

/-- The enabled record in a voltage role (R13). -/
def Bank.voltageSource (b : Bank) (role : Role) : Option (Fin 8) :=
  sourceIndices.find? fun k => (b.source k).enabled && (b.source k).role == role

/-- The enabled record that holds a stream identifier (R5). -/
def Bank.matchIdent (b : Bank) (ident : Word) : Option (Fin 8) :=
  sourceIndices.find? fun k => (b.source k).enabled && (b.source k).ident == ident

/-! ### PROFILE (R112) -/

/-- The modes of a profile. -/
inductive Mode where
  | off | monitor | reactive | full
  deriving DecidableEq, Repr

/-- A feeder profile as the blocks read it. -/
structure Profile where
  mode : Mode
  weight : Nat
  arcOn : Int
  arcOff : Int
  wakeEnable : Bool
  reportArcs : Bool
  deriving DecidableEq, Repr

/-- R130: the undefined mode codes 4..7 are read as the factory mode, OFF. -/
def readMode (code : Nat) : Mode :=
  match code with
  | 1 => .monitor
  | 2 => .reactive
  | 3 => .full
  | _ => .off

/-- A profile before the reading of its levels together. -/
def storedProfile (w0 w1 w2 w3 : Word) : Profile where
  mode := readMode (bitField 0 3 w0)
  weight := min 256 w1.toNat
  arcOn := min 32767 w2.toNat
  arcOff := min 32767 w3.toNat
  wakeEnable := bitAt 15 w0
  reportArcs := bitAt 14 w0

/-- R130, last: an arc-off level not below arc-on is read as one less than arc-on (log 25). -/
def Profile.ordered (p : Profile) : Profile := if p.arcOff < p.arcOn then p else { p with arcOff := p.arcOn - 1 }

/-- A profile of a bank, field by field. -/
def Bank.storedProfile (b : Bank) (n : Nat) : Profile :=
  Machine.storedProfile (wordAt b.profileWords (4 * n)) (wordAt b.profileWords (4 * n + 1))
    (wordAt b.profileWords (4 * n + 2)) (wordAt b.profileWords (4 * n + 3))

/-- A profile as the blocks read it (R112, R130). -/
def Bank.profile (b : Bank) (n : Fin 6) : Profile := (b.storedProfile n.val).ordered

/-! ### Conditions, TERM and REPORT (R114) -/

/-- The fifteen conditions (spec/00, "Conditions"). -/
inductive Condition where
  | voltageLost | unlocked | sag | overvoltage | feederSourceLost | standbyInUse | converterBlocked | converterStale
  | thermalDerate | qClamped | nScaled | tableFault | quiet | injecting | healthLow
  deriving DecidableEq, Repr

/-- The code of a condition. -/
def Condition.code : Condition → Nat
  | .voltageLost => 1
  | .unlocked => 2
  | .sag => 3
  | .overvoltage => 4
  | .feederSourceLost => 5
  | .standbyInUse => 6
  | .converterBlocked => 7
  | .converterStale => 8
  | .thermalDerate => 9
  | .qClamped => 10
  | .nScaled => 11
  | .tableFault => 12
  | .quiet => 13
  | .injecting => 14
  | .healthLow => 15

/-- All conditions, in code order. -/
def Condition.all : List Condition :=
  [.voltageLost, .unlocked, .sag, .overvoltage, .feederSourceLost, .standbyInUse, .converterBlocked, .converterStale,
    .thermalDerate, .qClamped, .nScaled, .tableFault, .quiet, .injecting, .healthLow]

/-- The condition a trip term's slot names; code 0, and an undefined code read as its factory value 0 (R130), names
none. -/
def Condition.ofCode (n : Nat) : Option Condition := Condition.all.find? fun c => c.code == n

/-- A trip term as the blocks read it. -/
structure Term where
  enabled : Bool
  conditions : List Condition
  trigger : Nat
  deriving DecidableEq, Repr

/-- A term of a bank (R114, R130): slots 1 to 3 in the order of the layout, unused slots left out. -/
def Bank.term (b : Bank) (n : Fin 4) : Term :=
  let w0 := wordAt b.termWords (2 * n.val)
  let w1 := wordAt b.termWords (2 * n.val + 1)
  { enabled := bitAt 15 w0
    conditions := [bitField 0 5 w1, bitField 5 5 w1, bitField 10 5 w1].filterMap Condition.ofCode
    trigger := max 1 (bitField 0 8 w0) }

/-- The routings of R114. -/
inductive Routing where
  | silent | event | onset
  deriving DecidableEq, Repr

/-- The factory routing of a condition (R114): EVENT for codes 1, 7, 12 and 15. -/
def Condition.factoryRouting : Condition → Routing
  | .voltageLost => .event
  | .converterBlocked => .event
  | .tableFault => .event
  | .healthLow => .event
  | _ => .silent

/-- The routing of a condition as the event unit reads it (R130, R176): entry n belongs to code n + 1. -/
def Bank.routing (b : Bank) (c : Condition) : Routing :=
  match bitField 0 2 (wordAt b.reportWords (c.code - 1)) with
  | 0 => .silent
  | 1 => .event
  | 2 => .onset
  | _ => c.factoryRouting

/-! ### What WRITE_TABLE stores (R118, R195) -/

/-- The stored form of a SOURCE entry; none for the undefined role. -/
def storeSource (w0 w1 w2 w3 : Word) : Option (List Word) :=
  if bitField 12 2 w1 = 3 then none
  else
    some [w0, putField 0 3 (min 5 (bitField 0 3 w1)) w1, wordOf (max 1 w2.toNat),
      putField 0 4 (max 1 (bitField 0 4 w3)) (putField 8 5 (min 24 (bitField 8 5 w3)) w3)]

/-- The stored form of a PROFILE entry; none for an undefined mode. -/
def storeProfile (w0 w1 w2 w3 : Word) : Option (List Word) :=
  if 3 < bitField 0 3 w0 then none
  else some [w0, wordOf (min 256 w1.toNat), wordOf (min 32767 w2.toNat), wordOf (min 32767 w3.toNat)]

/-- The stored form of a TERM entry; none for an undefined slot code. -/
def storeTerm (w0 w1 : Word) : Option (List Word) :=
  if 15 < bitField 0 5 w1 ∨ 15 < bitField 5 5 w1 ∨ 15 < bitField 10 5 w1 then none
  else some [putField 0 8 (max 1 (bitField 0 8 w0)) w0, w1]

/-- The stored form of entry `i` of a table, each numeric field clamped into its range in its own bits and the ignored
bits as written; none where a field holds an undefined code (R118, R195). -/
def storeEntry (t : TableId) (i : Nat) (ws : List Word) : Option (List Word) :=
  match t, ws with
  | .sine, [w] => some [signedWord (readSine w)]
  | .source, [w0, w1, w2, w3] => storeSource w0 w1 w2 w3
  | .profile, [w0, w1, w2, w3] => storeProfile w0 w1 w2 w3
  | .control, [w] => (Param.all[i]?).bind fun p => (p.storeWord w).map fun v => [v]
  | .term, [w0, w1] => storeTerm w0 w1
  | .report, [w] => if bitField 0 2 w = 3 then none else some [w]
  | _, _ => none

/-! ### Validation at a commit (R123) -/

/-- The first source record, in index order, that conflicts with an enabled record of lower index. -/
def firstSourceConflict (lower : List SourceRecord) (k : Nat) : List SourceRecord → Option Nat
  | [] => none
  | r :: rest => if r.conflictsBelow lower then some k else firstSourceConflict (lower ++ [r]) (k + 1) rest

/-- R123: the first conflict of a bank, as the offending table and index. -/
def Bank.conflict (b : Bank) : Option (TableId × Nat) :=
  match firstSourceConflict [] 0 b.storedSources with
  | some k => some (.source, k)
  | none =>
    (feederNumbers.find? fun n => decide ((b.storedProfile n.val).arcOn ≤ (b.storedProfile n.val).arcOff)).map
      fun n => (.profile, n.val)

/-! ### Factory contents (R110 to R114) -/

/-- The first quarter of the factory SINE table: entry n is 8192 times the sine of 2πn/256, rounded (R110). -/
def factoryQuarter : List Nat :=
  [0, 201, 402, 603, 803, 1003, 1202, 1401, 1598, 1795, 1990, 2185, 2378, 2570, 2760, 2948, 3135, 3320, 3503, 3683,
    3862, 4038, 4212, 4383, 4551, 4717, 4880, 5040, 5197, 5351, 5501, 5649]
  ++ [5793, 5933, 6070, 6203, 6333, 6458, 6580, 6698, 6811, 6921, 7027, 7128, 7225, 7317, 7405, 7489, 7568, 7643, 7713,
    7779, 7839, 7895, 7946, 7993, 8035, 8071, 8103, 8130, 8153, 8170, 8182, 8190, 8192]

/-- The factory SINE entry n, from the quarter by the symmetry of the sine. -/
def factorySine (n : Nat) : Int :=
  if n ≤ 64 then factoryQuarter.getD n 0
  else if n ≤ 128 then factoryQuarter.getD (128 - n) 0
  else if n ≤ 192 then -(factoryQuarter.getD (n - 128) 0 : Int)
  else -(factoryQuarter.getD (256 - n) 0 : Int)

/-- A factory bank, every ignored bit 0 (spec/11, "Factory entries in image form"). -/
def Bank.factory : Bank where
  sineWords := Vector.ofFn fun i => signedWord (factorySine i.val)
  sourceWords := Vector.ofFn fun i => ([0x0000#16, 0x2000#16, 0x0001#16, 0x0004#16]).getD (i.val % 4) 0
  profileWords := Vector.ofFn fun i => ([0x0000#16, 0x0100#16, 0x0333#16, 0x019A#16]).getD (i.val % 4) 0
  controlWords := Vector.ofFn fun i => ((Param.all[i.val]?).map fun p => signedWord p.factory).getD 0
  termWords := Vector.ofFn fun i => ([0x0001#16, 0x0000#16]).getD (i.val % 2) 0
  reportWords := Vector.ofFn fun i =>
    match ((Condition.all[i.val]?).map Condition.factoryRouting).getD .silent with
    | .event => 1
    | .onset => 2
    | .silent => 0

end Sys2Proof.Machine
end

