-- ==== Sys2Proof/Machine/Blocks.lean ====
section
/-! DEFINITION. The state of each block as plain data, and what each reset leaves in it. -/

namespace Sys2Proof.Machine

/-- Three phase values a, b, c. -/
structure Phases where
  a : Iu
  b : Iu
  c : Iu
  deriving DecidableEq, Repr

/-- Three zeros. -/
def Phases.zero : Phases := ⟨0, 0, 0⟩

/-! ### The transmit side of a link (R95, R157, log 13) -/

/-- The transmit side of a link: the frames handed to it since the last power-on or hard reset that may not have left yet,
oldest first, and what has left it: whole frames, and the part of one that a reset cut off. -/
structure Transmitter where
  handed : List (List Word)
  sent : List (List Word)
  deriving DecidableEq, Repr

/-- Nothing handed over and nothing sent. -/
def Transmitter.idle : Transmitter := ⟨[], []⟩

/-! ### Sample intake (R9, R11, R13, R15) -/

/-- The states of a source. -/
inductive SourceState where
  | disabled | recovering | active | lost
  deriving DecidableEq, Repr

/-- A source's state, run count 0..255 and hold count 0..15. -/
structure SourceStatus where
  state : SourceState
  run : Nat
  hold : Nat
  deriving DecidableEq, Repr

/-- The voltage in use (R13). -/
inductive VoltageInUse where
  | none | main | standby
  deriving DecidableEq, Repr

/-- The stream counters of R9, each 0..65535. -/
structure Counters where
  malformed : Nat
  foreign : Nat
  duplicate : Nat
  late : Nat
  held : Nat
  resync : Nat
  saturation : Vector Nat 8
  deriving DecidableEq, Repr

/-- Sample intake; VOLTAGE_LOST and STANDBY_IN_USE are views of `voltage` (R15). -/
structure Intake where
  sources : Vector SourceStatus 8
  voltage : VoltageInUse
  feederLost : Bool
  counters : Counters
  deriving DecidableEq, Repr

/-- R9: every counter at 0. -/
def Counters.zero : Counters := ⟨0, 0, 0, 0, 0, 0, Vector.replicate 8 0⟩

/-- R17: RECOVERING with both counts 0 for an enabled record, DISABLED for one that is not. -/
def SourceStatus.initial (r : SourceRecord) : SourceStatus :=
  ⟨if r.enabled then .recovering else .disabled, 0, 0⟩

/-- R17: intake after any reset, under the active bank. -/
def Intake.afterReset (b : Bank) : Intake where
  sources := Vector.ofFn fun k => SourceStatus.initial (b.source k)
  voltage := .none
  feederLost := false
  counters := Counters.zero

/-! ### Alignment ring (R18, R30) -/

/-- What a slot holds for one source: three scaled values and the usable flag. -/
structure Sample where
  values : Phases
  usable : Bool
  deriving DecidableEq, Repr

/-- An arrival (spec/01, "From frame to arrival"). -/
structure Arrival where
  source : Fin 8
  count : Nat
  sample : Sample
  deriving DecidableEq, Repr

/-- A slot: for each source index, no arrival or one. -/
abbrev Slot := Vector (Option Sample) 8

/-- The empty slot. -/
def Slot.empty : Slot := Vector.replicate 8 none

/-- The alignment ring: slots by distance from the base, and the arrivals intake has handed over that wait (R30). -/
structure Ring where
  synced : Bool
  base : Nat
  slots : Vector Slot 16
  lastValues : Vector Phases 8
  lastReleased : Option Nat
  waiting : List Arrival
  deriving DecidableEq, Repr

/-- Sixteen empty slots. -/
def emptySlots : Vector Slot 16 := Vector.replicate 16 Slot.empty

/-- R39: the ring after any reset. -/
def Ring.afterReset : Ring where
  synced := false
  base := 0
  slots := emptySlots
  lastValues := Vector.replicate 8 Phases.zero
  lastReleased := none
  waiting := []

/-! ### Angle tracker (R40) -/

/-- The angle tracker; UNLOCKED is the view `¬ locked`. -/
structure Tracker where
  phase : Nat
  integrator : Int
  locked : Bool
  lockRun : Nat
  unlockRun : Nat
  sag : Bool
  sagRun : Nat
  sagClearRun : Nat
  vd : Iu
  vq : Iu
  cycleSum : Int
  cycleSets : Nat
  cycleVoltage : Bool
  lastMean : Option Int
  lastStep : Option Nat
  overvoltage : Bool
  cycle : Nat
  deriving DecidableEq, Repr

/-- R55: the tracker after any reset. -/
def Tracker.afterReset : Tracker where
  phase := 0
  integrator := 0
  locked := false
  lockRun := 0
  unlockRun := 0
  sag := false
  sagRun := 0
  sagClearRun := 0
  vd := 0
  vq := 0
  cycleSum := 0
  cycleSets := 0
  cycleVoltage := true
  lastMean := none
  lastStep := none
  overvoltage := false
  cycle := 0

/-! ### Transform unit and cycle windows (R56) -/

/-- One ring of a window, oldest entry first, with its running sum. -/
structure WindowRing where
  entries : List Iu
  sum : Int
  deriving DecidableEq, Repr

/-- A feeder's window: four rings and the fill count they share. -/
structure Window where
  idPos : WindowRing
  iqPos : WindowRing
  idNeg : WindowRing
  iqNeg : WindowRing
  fill : Nat
  deriving DecidableEq, Repr

/-- R65: a cleared ring of `w` entries. -/
def WindowRing.cleared (w : Nat) : WindowRing := ⟨List.replicate w 0, 0⟩

/-- R65: a cleared window of length `w`. -/
def Window.cleared (w : Nat) : Window :=
  ⟨WindowRing.cleared w, WindowRing.cleared w, WindowRing.cleared w, WindowRing.cleared w, 0⟩

/-- The transform unit: the window length in force and the six windows. -/
structure Transform where
  length : Nat
  windows : Vector Window 6
  deriving DecidableEq, Repr

/-- R70: all windows cleared at the length the active bank gives. -/
def Transform.afterReset (b : Bank) : Transform where
  length := b.windowLength
  windows := Vector.replicate 6 (Window.cleared b.windowLength)

/-! ### Reference composer (R71) -/

/-- The reference sources of R82. -/
inductive RefSource where
  | inject | blocked | hold | quiet | computed
  deriving DecidableEq, Repr

/-- The composer; INJECTING is a view of `injActive`. -/
structure Composer where
  injActive : Bool
  injValues : Phases
  injCounted : Bool
  injRemaining : Nat
  qSeen : Bool
  nSeen : Bool
  qClamped : Bool
  nScaled : Bool
  lastSource : Option RefSource
  deriving DecidableEq, Repr

/-- R93: the composer after any reset, its injection values 0 and its mode counted; R89 says instead that an injection a reset
ends leaves them as they were. The model follows R93's table (DESIGN CHOICE, log 34). -/
def Composer.afterReset : Composer where
  injActive := false
  injValues := Phases.zero
  injCounted := true
  injRemaining := 0
  qSeen := false
  nSeen := false
  qClamped := false
  nScaled := false
  lastSource := none

/-! ### Link C port (R94) -/

/-- The latest converter status. -/
structure ConverterStatus where
  capability : Nat
  thermal : Bool
  blocked : Bool
  fault : Nat
  deriving DecidableEq, Repr

/-- The link C port; CONVERTER_BLOCKED is a view of `blockLine` and the status blocked flag (R102). -/
structure LinkC where
  status : Option ConverterStatus
  staleRun : Nat
  thermalRun : Nat
  blockLine : Bool
  stale : Bool
  derate : Bool
  synced : Bool
  deriving DecidableEq, Repr

/-- Capability C: 0 while latest status is absent (R94). -/
def LinkC.capability (l : LinkC) : Nat := (l.status.map ConverterStatus.capability).getD 0

/-- The status blocked flag: clear while latest status is absent. -/
def LinkC.blockedFlag (l : LinkC) : Bool := (l.status.map ConverterStatus.blocked).getD false

/-- The fault code: 0 while latest status is absent. -/
def LinkC.faultCode (l : LinkC) : Nat := (l.status.map ConverterStatus.fault).getD 0

/-- R102: CONVERTER_BLOCKED. -/
def LinkC.isBlocked (l : LinkC) : Bool := l.blockLine || l.blockedFlag

/-- R107: the port after a reset, with CBLK at `cblk` and the receiver as the kind of reset leaves it. -/
def LinkC.afterReset (b : Bank) (cblk synced : Bool) : LinkC where
  status := none
  staleRun := b.count .staleSets
  thermalRun := 0
  blockLine := cblk
  stale := true
  derate := false
  synced := synced

/-! ### Table store (R109) -/

/-- The table store. -/
structure TableStore where
  bank0 : Bank
  bank1 : Bank
  active : Fin 2
  recorded : Word
  pendingSwap : Option Word
  auditInFlight : Bool
  auditCounter : Nat
  tableFault : Bool
  deriving DecidableEq, Repr

/-- A bank by its number. -/
def TableStore.bank (t : TableStore) (n : Fin 2) : Bank := if n = 0 then t.bank0 else t.bank1

/-- The number of the shadow bank (R116). -/
def TableStore.shadowNumber (t : TableStore) : Fin 2 := if t.active = 0 then 1 else 0

/-- The active bank. -/
def TableStore.activeBank (t : TableStore) : Bank := t.bank t.active

/-- The shadow bank. -/
def TableStore.shadowBank (t : TableStore) : Bank := t.bank t.shadowNumber

/-- The store with its shadow bank replaced. -/
def TableStore.setShadow (t : TableStore) (b : Bank) : TableStore :=
  if t.active = 0 then { t with bank1 := b } else { t with bank0 := b }

/-- R132, R133: what every reset clears in the table store. -/
def TableStore.clearOperations (t : TableStore) : TableStore :=
  { t with pendingSwap := none, auditInFlight := false, auditCounter := 0, tableFault := false }

/-- R133, R170: both banks at factory contents, bank 0 active, its digest recorded. -/
def TableStore.initialised : TableStore where
  bank0 := Bank.factory
  bank1 := Bank.factory
  active := 0
  recorded := Bank.factory.digest
  pendingSwap := none
  auditInFlight := false
  auditCounter := 0
  tableFault := false

/-! ### Furnace supervision (R134) -/

/-- The arc states. -/
inductive ArcState where
  | dark | pendingOn | burning | pendingOff
  deriving DecidableEq, Repr

/-- Furnace supervision. -/
structure Supervision where
  arcs : Vector ArcState 6
  quietTimer : Nat
  quiet : Bool
  termRuns : Vector Nat 4
  trip : Bool
  deriving DecidableEq, Repr

/-- R150: supervision after a reset, with the trip line as the kind of reset leaves it. -/
def Supervision.afterReset (trip : Bool) : Supervision where
  arcs := Vector.replicate 6 .dark
  quietTimer := 0
  quiet := false
  termRuns := Vector.replicate 4 0
  trip := trip

/-! ### Management engine (R152) -/

/-- The protection states. -/
inductive Protection where
  | opened | unlocked | locked | frozen
  deriving DecidableEq, Repr

/-- The attention modes. -/
inductive AttentionMode where
  | latched | pulsed
  deriving DecidableEq, Repr

/-- The monitor selection (R98). -/
inductive MonitorSelection where
  | strap
  | quantity (n : Fin 16)
  deriving DecidableEq, Repr

/-- A request taken into the queue: the fields of its frame (spec/11, "Request frame"). -/
structure Request where
  address : BitVec 6
  tag : BitVec 8
  code : Word
  selector : Word
  start : Nat
  params : List Word
  deriving DecidableEq, Repr

/-- R153: a request to address 63 is a broadcast. -/
def Request.broadcast (r : Request) : Bool := r.address == 63

/-- The operations whose service ends later than it begins (R121, R122, R169). -/
inductive Operation where
  | clone
  | commit
  | softReset
  deriving DecidableEq, Repr

/-- The management engine; expiry is a view of `attempts` (R163). -/
structure Engine where
  address : BitVec 6
  queue : List Request
  operation : Option Operation
  overrun : Nat
  protection : Protection
  code : Option (BitVec 32)
  attempts : Nat
  attention : AttentionMode
  monitor : MonitorSelection
  deriving DecidableEq, Repr

/-- Expiry is set while the attempt count is 5 (R163). -/
def Engine.expiry (e : Engine) : Bool := e.attempts == 5

/-- R172: the engine after a power-on or hard reset, with the address last read. -/
def Engine.afterReset (address : BitVec 6) : Engine where
  address := address
  queue := []
  operation := none
  overrun := 0
  protection := .opened
  code := none
  attempts := 0
  attention := .latched
  monitor := .strap

/-! ### Event unit (R173, R174) -/

/-- The kinds of reset. -/
inductive ResetKind where
  | powerOn | hard | soft
  deriving DecidableEq, Repr

/-- The self-test results. -/
inductive SelfTestResult where
  | pass | banksReinit
  deriving DecidableEq, Repr

/-- Kind, subject and detail of an event record (R174). -/
inductive EventBody where
  | reset (kind : ResetKind) (result : SelfTestResult)
  | link (link : Link) (regained : Bool)
  | source (k : Fin 8) (state : SourceState)
  | resync (k : Fin 8) (occupied : Nat)
  | condition (c : Condition) (on : Bool)
  | swap (bank : Fin 2)
  | arc (feeder : Fin 6) (state : ArcState)
  | trip (term : Fin 4) (trigger : Nat)
  | access (attempts : Nat)
  deriving DecidableEq, Repr

/-- An event record: its body, cycle stamp and set count (R174). -/
structure EventRecord where
  body : EventBody
  cycle : Nat
  setCount : Option Nat
  deriving DecidableEq, Repr

/-- The event unit: the ATTN line is a field of its own; `pulse` is the time left in µs when it was last started
(log 22). -/
structure EventUnit where
  queue : List EventRecord
  overflow : Bool
  line : Bool
  pulse : Option Nat
  deriving DecidableEq, Repr

/-- R181: the event unit during the hold of a power-on or hard reset. -/
def EventUnit.emptied : EventUnit := ⟨[], false, false, none⟩

/-! ### Health (R182) -/

/-- The health attributes 1..5, as indices 0..4. -/
abbrev Attribute := Fin 5

/-- The health block. -/
structure Health where
  raw : Vector Nat 5
  value : Vector Nat 5
  worst : Vector Nat 5
  threshold : Vector Nat 5
  interval : Nat
  blockedSeen : Bool
  low : Bool
  deriving DecidableEq, Repr

/-- R189: the health block after a power-on or hard reset. -/
def Health.afterReset : Health where
  raw := Vector.replicate 5 0
  value := Vector.replicate 5 253
  worst := Vector.replicate 5 253
  threshold := Vector.replicate 5 0
  interval := 0
  blockedSeen := false
  low := false

/-- R189: what a soft reset clears in the health block. -/
def Health.softReset (h : Health) : Health :=
  { h with raw := Vector.replicate 5 0, interval := 0, blockedSeen := false, low := false }

/-! ### The part as a whole (R168) -/

/-- Where the part stands in a reset (R168, log 11): running, held, self-testing, or a power-on whose self-test has
ended with RESET_N still low. -/
inductive RunPhase where
  | running
  | heldPowerOn
  | heldHard
  | testingPowerOn
  | testingHard
  | awaitingLine
  deriving DecidableEq, Repr

/-- The input lines: RESET_N and CBLK as they stand, the ADDR straps as last read, the MON straps as they stood at the
last reference frame (log 10). -/
structure Pins where
  resetN : Bool
  cblk : Bool
  addr : BitVec 6
  mon : BitVec 3
  deriving DecidableEq, Repr

end Sys2Proof.Machine
end

