-- ==== Sys2Proof/Machine/Operands.lean ====
section
/-! DEFINITION. The frames the part receives: the check word, the tests of both ports and the fields read from the words
(R2, R3, R100, R190 to R194). -/

namespace Sys2Proof.Machine

/-! ### Check word (R192) -/

/-- R192: one bit fed into the register. -/
def crcBit (r : Word) (b : Bool) : Word := if (bitAt 15 r != b) then (r <<< 1) ^^^ 0x1021 else r <<< 1

/-- R192: one word fed into the register, bit 15 first. -/
def crcWord (r w : Word) : Word :=
  [15, 14, 13, 12, 11, 10, 9, 8, 7, 6, 5, 4, 3, 2, 1, 0].foldl (fun r n => crcBit r (bitAt n w)) r

/-- R192: the check word over a sequence of words. -/
def checkWord (ws : List Word) : Word := ws.foldl crcWord 0xFFFF

/-- Word `n` of a frame (0 past its end, which no test lets through). -/
def frameWord (ws : List Word) (n : Nat) : Word := ws.getD n 0

/-- R190: a whole frame from its kind word and its fields: the length word and the check word are added. -/
def sealFrame (kind : Word) (fields : List Word) : List Word :=
  let body := kind :: wordOf (fields.length + 3) :: fields
  body ++ [checkWord body]

/-- The length test of R2 and R100: there is a length word, and it is the number of words received. -/
def lengthAgrees (ws : List Word) : Bool := decide (3 ≤ ws.length) && (frameWord ws 1).toNat == ws.length

/-- The check word test of R2 and R100. -/
def checkAgrees (ws : List Word) : Bool := frameWord ws (ws.length - 1) == checkWord ws.dropLast

/-! ### Request codes (R190) -/

/-- The 22 known request codes. -/
inductive RequestCode where
  | echo | readStatus | readTable | writeTable | clone | commitSwap | cancelSwap | readEvents | readHealth | setMonitor
  | wake | clearTrip | inject | injectClear | setThreshold | setAttentionMode | resetController | setCode | clearCode
  | unlock | lock | freeze
  deriving DecidableEq, Repr

/-- The request code table of spec/11. -/
def RequestCode.ofWord (w : Word) : Option RequestCode :=
  match w.toNat with
  | 0x01 => some .echo
  | 0x02 => some .readStatus
  | 0x03 => some .readTable
  | 0x04 => some .writeTable
  | 0x05 => some .clone
  | 0x06 => some .commitSwap
  | 0x07 => some .cancelSwap
  | 0x08 => some .readEvents
  | 0x09 => some .readHealth
  | 0x0A => some .setMonitor
  | 0x0B => some .wake
  | 0x0C => some .clearTrip
  | 0x0D => some .inject
  | 0x0E => some .injectClear
  | 0x0F => some .setThreshold
  | 0x10 => some .setAttentionMode
  | 0x11 => some .resetController
  | 0x12 => some .setCode
  | 0x13 => some .clearCode
  | 0x14 => some .unlock
  | 0x15 => some .lock
  | 0x16 => some .freeze
  | _ => none

/-- The number of parameter words of a request code other than WRITE_TABLE. -/
def RequestCode.paramWords : RequestCode → Nat
  | .readTable => 2
  | .commitSwap => 1
  | .readEvents => 1
  | .setMonitor => 1
  | .inject => 7
  | .setThreshold => 2
  | .setAttentionMode => 1
  | .setCode => 2
  | .unlock => 2
  | _ => 0

/-- The request codes carried out for a broadcast (R156, R131). -/
def RequestCode.servedBroadcast : RequestCode → Bool
  | .writeTable => true
  | .clone => true
  | .commitSwap => true
  | .cancelSwap => true
  | _ => false

/-- R190: whether a WRITE_TABLE list part of `n` words has a required length: 1 to 32 whole entries of the named table, or
1 to 32 words where the selector names no table. -/
def writeListLength (selector : Word) (n : Nat) : Bool :=
  let k := ((TableId.ofWord selector).map TableId.entryWords).getD 1
  n % k == 0 && decide (1 ≤ n / k) && decide (n / k ≤ 32)

/-- R2, R190: whether a request of this code and selector may have `n` parameter words. -/
def paramsLength (code selector : Word) (n : Nat) : Bool :=
  match RequestCode.ofWord code with
  | some .writeTable => writeListLength selector n
  | some c => n == c.paramWords
  | none => true

/-! ### Link M (R2, R3) -/

/-- The fields of a sample frame (spec/11, "Sample frame"). -/
structure SampleFields where
  ident : Word
  count : Nat
  valid : Bool
  normal : Bool
  raw : Phases
  deriving DecidableEq, Repr

/-- The fields read from the words of a sample frame, ignored bits left out (R193, R194). -/
def readSampleFields (ws : List Word) : SampleFields where
  ident := frameWord ws 2
  count := (frameWord ws 3).toNat
  valid := !bitAt 0 (frameWord ws 4)
  normal := !bitAt 1 (frameWord ws 4)
  raw :=
    { a := value24 (frameWord ws 5) (frameWord ws 6)
      b := value24 (frameWord ws 7) (frameWord ws 8)
      c := value24 (frameWord ws 9) (frameWord ws 10) }

/-- The fields read from the words of a request frame (spec/11, "Request frame"). -/
def readRequest (ws : List Word) : Request where
  address := BitVec.ofNat 6 (bitField 0 6 (frameWord ws 2))
  tag := BitVec.ofNat 8 (bitField 8 8 (frameWord ws 2))
  code := frameWord ws 3
  selector := frameWord ws 4
  start := bitField 0 8 (frameWord ws 5)
  params := (ws.drop 6).dropLast

/-- What the link M port makes of a frame. -/
inductive LinkMFrame where
  | malformed
  | sample (f : SampleFields)
  | request (r : Request)
  deriving DecidableEq, Repr

/-- R2, R3: the tests of the link M port and the routing of a frame that passes them. -/
def judgeLinkM (ws : List Word) : LinkMFrame :=
  if lengthAgrees ws && checkAgrees ws then
    if frameWord ws 0 = 0x0A01 then
      if ws.length = 12 then .sample (readSampleFields ws) else .malformed
    else if frameWord ws 0 = 0x0A02 then
      if 7 ≤ ws.length && paramsLength (frameWord ws 3) (frameWord ws 4) (ws.length - 7) then .request (readRequest ws)
      else .malformed
    else .malformed
  else .malformed

/-! ### Link C (R100, R101) -/

/-- R100, R101: the status a frame on link C carries, or none where the port discards it. A capability above 32767 is
taken as 32767. -/
def judgeLinkC (ws : List Word) : Option ConverterStatus :=
  if lengthAgrees ws && checkAgrees ws && frameWord ws 0 == 0x0C02 && ws.length == 6 then
    some
      { capability := min 32767 (frameWord ws 2).toNat
        thermal := bitAt 0 (frameWord ws 3)
        blocked := bitAt 1 (frameWord ws 3)
        fault := bitField 0 8 (frameWord ws 4) }
  else none

/-! ### Parameters of requests -/

/-- Parameter word `n` of a request. -/
def Request.param (r : Request) (n : Nat) : Nat := (r.params.getD n 0).toNat

/-- A two-word code, bits 31..16 first (SET_CODE, UNLOCK). -/
def Request.accessCode (r : Request) : BitVec 32 := BitVec.ofNat 32 (r.param 0 * 65536 + r.param 1)

/-- Phase value `n` of an INJECT request, as carried (R194). -/
def Request.phase (r : Request) (n : Nat) : Int := value24 (r.params.getD (2 * n) 0) (r.params.getD (2 * n + 1) 0)

/-- The entry list of a WRITE_TABLE, in entries of `k` words. -/
def splitEntries (k : Nat) (ws : List Word) : List (List Word) :=
  (List.range (ws.length / k)).map fun n => (ws.drop (n * k)).take k

end Sys2Proof.Machine
end

