-- ==== Sys2Proof/Config.lean ====
section
/-! DEFINITION. What the manual leaves to the implementation: four free values. -/

namespace Sys2Proof

/-- FREE VALUE (log 1). R175: "Two records offered at the same moment by different blocks may enter in either
order." Applied to `State.picks`, a counter that advances at each choice, it says which block's record enters next;
it has no body, so nothing can be proved of it. -/
opaque Config.recordOrder : Nat → Nat

/-- FREE VALUE (log 31). R132: a reset that falls inside a WRITE_TABLE leaves "the entries already written" and "not the
rest". Applied to `State.picks`, it is the number of entries of the list handled when the reset falls, 0 where it falls
before the first; it has no body, so nothing can be proved of it. -/
opaque Config.entriesHandled : Nat → Nat

/-- FREE VALUE (log 13). R157: a reset "cuts off a response that is being sent. The words already sent stay sent". Applied to
`State.picks`, it is the number of words of the responses handed to link M's transmitter that have left it when the reset
falls; it has no body, so nothing can be proved of it. -/
opaque Config.responseWordsSent : Nat → Nat

/-- FREE VALUE (log 13). R95: a reset that falls while a reference frame is being sent "cuts the frame off. The words already
sent stay sent". Applied to `State.picks`, it is the number of its words that have left link C's transmitter when the reset
falls; it has no body, so nothing can be proved of it. -/
opaque Config.referenceWordsSent : Nat → Nat

end Sys2Proof
end

