-- ==== Sys2Proof/Machine/State.lean ====
section
/-! DEFINITION. The state of the NK7240, its state after reset, and the closed reasons a step could stop. -/

namespace Sys2Proof.Machine

/-- No command of this block stops with a fault: what the spec calls an error is an effect (R9, R130, R146, R157). No
constructor, so no one raises it: safe. -/
inductive Fault where
  deriving DecidableEq, Repr

/-- The reasons a command could have no meaning. -/
inductive Refusal where
  /-- Raised by exec's arm of a command without a meaning; none is left, so no one raises it: safe. -/
  | notModelled (mnemonic : String)
  deriving DecidableEq, Repr

/-- The NK7240: one field for each block (spec/00, "Block overview"), the lines, the transmit sides of both links, the
commands that wait and the counter of free choices (log 1). -/
structure State where
  pending : List Instr
  phase : RunPhase
  pins : Pins
  linkMSynced : Bool
  intake : Intake
  ring : Ring
  tracker : Tracker
  transform : Transform
  composer : Composer
  linkC : LinkC
  store : TableStore
  supervision : Supervision
  engine : Engine
  events : EventUnit
  health : Health
  linkMOut : Transmitter
  linkCOut : Transmitter
  picks : Nat
  deriving DecidableEq, Repr

/-- What a step answers. -/
abbrev Result := Host.Outcome State Fault Refusal

/-- The NK7240 after a power-on whose self-test has ended, its lines unconnected (log 3). -/
def State.reset : State where
  pending := []
  phase := .running
  pins := { resetN := true, cblk := true, addr := 63, mon := 7 }
  linkMSynced := false
  intake := Intake.afterReset Bank.factory
  ring := Ring.afterReset
  tracker := Tracker.afterReset
  transform := Transform.afterReset Bank.factory
  composer := Composer.afterReset
  linkC := LinkC.afterReset Bank.factory true false
  store := TableStore.initialised
  supervision := Supervision.afterReset false
  engine := Engine.afterReset 63
  events :=
    { queue := [{ body := .reset .powerOn .pass, cycle := 0, setCount := none }]
      overflow := false
      line := true
      pulse := none }
  health := Health.afterReset
  linkMOut := Transmitter.idle
  linkCOut := Transmitter.idle
  picks := 0

end Sys2Proof.Machine
end

