-- ==== Sys2Proof/Machine/Flags.lean ====
section
/-! DEFINITION. The condition values, and the routing of their changes to the event unit (R15, R40, R71, R94, R176). -/

namespace Sys2Proof.Machine

/-- The active bank, from which every block reads its parameters (R116). -/
def State.bank (s : State) : Bank := s.store.activeBank

/-- The present value of a condition, as its owner holds it. -/
def State.cond (s : State) : Condition → Bool
  | .voltageLost => s.intake.voltage == .none
  | .unlocked => !s.tracker.locked
  | .sag => s.tracker.sag
  | .overvoltage => s.tracker.overvoltage
  | .feederSourceLost => s.intake.feederLost
  | .standbyInUse => s.intake.voltage == .standby
  | .converterBlocked => s.linkC.isBlocked
  | .converterStale => s.linkC.stale
  | .thermalDerate => s.linkC.derate
  | .qClamped => s.composer.qClamped
  | .nScaled => s.composer.nScaled
  | .tableFault => s.store.tableFault
  | .quiet => s.supervision.quiet
  | .injecting => s.composer.injActive
  | .healthLow => s.health.low

/-- What a block offers to the event unit: a record, or the change of a condition it owns, with its stamps. -/
inductive Offer where
  | record (r : EventRecord)
  | change (c : Condition) (on : Bool) (cycle : Nat) (setCount : Option Nat)
  deriving DecidableEq, Repr

/-- The offers for those of the named conditions whose value differs between two states. -/
def changeOffers (cs : List Condition) (before after : State) (cycle : Nat) (set : Option Nat) : List Offer :=
  (cs.filter fun c => before.cond c != after.cond c).map fun c => .change c (after.cond c) cycle set

/-- R176: the record an offer becomes under a bank's REPORT table, or none. -/
def Offer.routed (b : Bank) : Offer → Option EventRecord
  | .record r => some r
  | .change c on cycle set =>
    match b.routing c with
    | .silent => none
    | .event => some ⟨.condition c on, cycle, set⟩
    | .onset => if on then some ⟨.condition c on, cycle, set⟩ else none

end Sys2Proof.Machine
end

