-- ==== Sys2Proof/Machine/Ops.lean ====
section
/-! DEFINITION. The shared operations: one update per block, the event unit taking records, counters and windows. -/

namespace Sys2Proof.Machine

/-! ### Updates of one block -/

/-- The state with where the part stands in a reset replaced. -/
def State.setPhase (s : State) (x : RunPhase) : State := { s with phase := x }
/-- The state with its input lines replaced. -/
def State.setPins (s : State) (x : Pins) : State := { s with pins := x }
/-- The state with its intake replaced. -/
def State.setIntake (s : State) (x : Intake) : State := { s with intake := x }
/-- The state with its alignment ring replaced. -/
def State.setRing (s : State) (x : Ring) : State := { s with ring := x }
/-- The state with its angle tracker replaced. -/
def State.setTracker (s : State) (x : Tracker) : State := { s with tracker := x }
/-- The state with its transform unit replaced. -/
def State.setTransform (s : State) (x : Transform) : State := { s with transform := x }
/-- The state with its composer replaced. -/
def State.setComposer (s : State) (x : Composer) : State := { s with composer := x }
/-- The state with its link C port replaced. -/
def State.setLinkC (s : State) (x : LinkC) : State := { s with linkC := x }
/-- The state with its table store replaced. -/
def State.setStore (s : State) (x : TableStore) : State := { s with store := x }
/-- The state with its furnace supervision replaced. -/
def State.setSupervision (s : State) (x : Supervision) : State := { s with supervision := x }
/-- The state with its management engine replaced. -/
def State.setEngine (s : State) (x : Engine) : State := { s with engine := x }
/-- The state with its health block replaced. -/
def State.setHealth (s : State) (x : Health) : State := { s with health := x }

/-- The event unit and the counter of free choices, which only `State.deliver`, READ_EVENTS, SET_ATTENTION_MODE, the
pulse's end and the resets change. -/
def State.setEvents (s : State) (x : EventUnit) (picks : Nat) : State := { s with events := x, picks := picks }

/-! ### The transmit sides (R95, R157, log 13) -/

/-- The first `n` words of a sequence of frames, as frames: those that lie whole within them, then the part of the next. -/
def cutFrames (n : Nat) : List (List Word) → List (List Word)
  | [] => []
  | f :: rest =>
    if f.length ≤ n then f :: cutFrames (n - f.length) rest
    else if n = 0 then [] else [f.take n]

/-- A frame handed over, behind those handed over before. -/
def Transmitter.hand (x : Transmitter) (frame : List Word) : Transmitter := { x with handed := x.handed ++ [frame] }

/-- The last word of all that was handed over has left. -/
def Transmitter.leave (x : Transmitter) : Transmitter := ⟨[], x.sent ++ x.handed⟩

/-- R95, R157: a reset when `n` words of what was handed over have left: they stay sent, the rest is not sent. -/
def Transmitter.cut (n : Nat) (x : Transmitter) : Transmitter := ⟨[], x.sent ++ cutFrames n x.handed⟩

/-- R155, R157: a response frame handed to the link M transmitter; when it leaves is not seen (log 13). -/
def State.sendM (s : State) (frame : List Word) : State := { s with linkMOut := s.linkMOut.hand frame }

/-- R95: the sending of a reference frame on link C begins. -/
def State.sendC (s : State) (frame : List Word) : State := { s with linkCOut := s.linkCOut.hand frame }

/-- R95: the last word of the reference frame has left the transmitter. -/
def State.leaveC (s : State) : State := { s with linkCOut := s.linkCOut.leave }

/-- R95, R157: what a power-on or hard reset leaves of the frames being sent; how many words of them have left by then is
a free value for each link (log 13). -/
def State.cutSending (s : State) : State :=
  { s with
    linkMOut := s.linkMOut.cut (Config.responseWordsSent s.picks)
    linkCOut := s.linkCOut.cut (Config.referenceWordsSent s.picks) }

/-- A command that has an effect only while the part is neither held nor self-testing (R168). -/
def State.whenRunning (s : State) (f : State → State) : State := if s.phase = .running then f s else s

/-! ### The event unit (R175, R178, R179) -/

/-- R175: one record offered. It joins the queue, asserts the line (R178, R179) and in PULSED mode starts a pulse of
100 µs; at a full queue it is discarded and the overflow flag is set. -/
def EventUnit.take (mode : AttentionMode) (e : EventUnit) (r : EventRecord) : EventUnit :=
  if e.queue.length < 16 then
    { e with
      queue := e.queue ++ [r]
      line := true
      pulse := if mode = .pulsed then some 100 else e.pulse }
  else { e with overflow := true }

/-- The groups that still hold a record. -/
def openGroups (groups : List (List EventRecord)) : List (List EventRecord) := groups.filter fun g => !g.isEmpty

/-- R175: the records of several blocks offered at one moment, each block's in its own order, the blocks' among each
other in an order the free value decides; the counter advances at each choice. `fuel` bounds the records left. -/
def mergeRecords (fuel picks : Nat) (groups : List (List EventRecord)) : List EventRecord × Nat :=
  match fuel with
  | 0 => ([], picks)
  | fuel + 1 =>
    match openGroups groups with
    | [] => ([], picks)
    | [g] => (g, picks)
    | gs =>
      let k := Config.recordOrder picks % gs.length
      let m := mergeRecords fuel (picks + 1) (gs.modify k List.tail)
      ((gs.getD k []).take 1 ++ m.1, m.2)

/-- R175, R176: the offers of one moment, one group for each block, routed under the active bank and taken by the event
unit in the attention mode in force. -/
def State.deliver (s : State) (groups : List (List Offer)) : State :=
  let recs := groups.map fun g => g.filterMap (Offer.routed s.bank)
  let m := mergeRecords recs.flatten.length s.picks recs
  s.setEvents (m.1.foldl (EventUnit.take s.engine.attention) s.events) m.2

/-- The offers of one block. -/
def State.offer (s : State) (offers : List Offer) : State := s.deliver [offers]

/-- One record with the stamps of R174: the cycle number and the last released count at this moment. -/
def State.record (s : State) (body : EventBody) : State :=
  s.offer [.record ⟨body, s.tracker.cycle, s.ring.lastReleased⟩]

/-- The changes of the named conditions from `before` to `s`, with the stamps of R174. -/
def State.offerChanges (s before : State) (cs : List Condition) : State :=
  s.offer (changeOffers cs before s s.tracker.cycle s.ring.lastReleased)

/-! ### Counters of intake (R9) -/

/-- One counter of R9 raised by one. -/
def State.countMalformed (s : State) : State :=
  s.setIntake { s.intake with counters := { s.intake.counters with malformed := countUp 1 s.intake.counters.malformed } }

@[inherit_doc State.countMalformed]
def State.countForeign (s : State) : State :=
  s.setIntake { s.intake with counters := { s.intake.counters with foreign := countUp 1 s.intake.counters.foreign } }

@[inherit_doc State.countMalformed]
def State.countDuplicate (s : State) : State :=
  s.setIntake { s.intake with counters := { s.intake.counters with duplicate := countUp 1 s.intake.counters.duplicate } }

@[inherit_doc State.countMalformed]
def State.countLate (s : State) : State :=
  s.setIntake { s.intake with counters := { s.intake.counters with late := countUp 1 s.intake.counters.late } }

@[inherit_doc State.countMalformed]
def State.countResync (s : State) : State :=
  s.setIntake { s.intake with counters := { s.intake.counters with resync := countUp 1 s.intake.counters.resync } }

/-- The held counter raised by the number of substitutions in a set (R32). -/
def State.countHeld (s : State) (n : Nat) : State :=
  s.setIntake { s.intake with counters := { s.intake.counters with held := countUp n s.intake.counters.held } }

/-- The saturation counter of a source raised by `n` (R7). -/
def State.countSaturations (s : State) (k : Fin 8) (n : Nat) : State :=
  s.setIntake
    { s.intake with
      counters :=
        { s.intake.counters with
          saturation := s.intake.counters.saturation.set k.val (countUp n s.intake.counters.saturation[k]) } }

/-- A raw count of a health attribute raised by `n`, stopping at 65535 (R182). -/
def Health.count (h : Health) (a : Attribute) (n : Nat) : Health :=
  { h with raw := h.raw.set a.val (countUp n h.raw[a]) }

/-- R183: a raw count raised between boundaries. -/
def State.countHealth (s : State) (a : Attribute) (n : Nat) : State := s.setHealth (s.health.count a n)

/-! ### Windows (R61, R62, R64, R65) -/

/-- R61: the oldest entry removed, the new one added, the sum updated. -/
def WindowRing.feed (r : WindowRing) (v : Iu) : WindowRing :=
  ⟨r.entries.tail ++ [v], r.sum - r.entries.headD 0 + v⟩

/-- R62: the average, over the full window length. -/
def WindowRing.average (w : Nat) (r : WindowRing) : Iu := roundedShift (if w = 32 then 5 else 6) r.sum

/-- R65: one feeder's window cleared. -/
def State.clearWindow (s : State) (n : Fin 6) : State :=
  s.setTransform
    { s.transform with windows := s.transform.windows.set n.val (Window.cleared s.transform.length) }

/-- The windows of several feeders cleared. -/
def State.clearWindows (s : State) (ns : List (Fin 6)) : State := ns.foldl State.clearWindow s

end Sys2Proof.Machine
end

