-- ==== Sys2Proof/Machine/Intake.lean ====
section
/-! DEFINITION. Sample intake: from a sample frame to an arrival, and the source states, the voltage in use and the
conditions at each released set (R5 to R15, R31 to R34, R66, R139). -/

namespace Sys2Proof.Machine

/-! ### From frame to arrival (R5 to R8) -/

/-- R6: the usable flag of an arrival. -/
def usableFlag (r : SourceRecord) (f : SampleFields) : Bool := f.valid && (f.normal || r.acceptTest)

/-- R7: the rounded shift by S of the exact product r×G, before saturation. -/
def scaleExact (r : SourceRecord) (x : Int) : Int := roundedShift r.shift (x * (r.gain : Int))

/-- R7: the three scaled values. -/
def scalePhases (r : SourceRecord) (raw : Phases) : Phases :=
  ⟨saturate (scaleExact r raw.a), saturate (scaleExact r raw.b), saturate (scaleExact r raw.c)⟩

/-- R7: how many of the three values saturation changes. -/
def saturations (r : SourceRecord) (raw : Phases) : Nat :=
  [raw.a, raw.b, raw.c].countP fun x => saturate (scaleExact r x) != scaleExact r x

/-- R8: the arrival a matched frame becomes. -/
def formArrival (b : Bank) (k : Fin 8) (f : SampleFields) : Arrival :=
  ⟨k, f.count, ⟨scalePhases (b.source k) f.raw, usableFlag (b.source k) f⟩⟩

/-- R5 to R8: a sample frame that passed the port's tests; its arrival is handed over to wait for the ring (log 9). -/
def State.intakeSample (s : State) (f : SampleFields) : State :=
  if s.bank.modulus ≤ f.count then s.countMalformed
  else
    match s.bank.matchIdent f.ident with
    | none => s.countForeign
    | some k =>
      (s.countSaturations k (saturations (s.bank.source k) f.raw)).setRing
        { s.ring with waiting := s.ring.waiting ++ [formArrival s.bank k f] }

/-! ### The released set (R31 to R33) -/

/-- An enabled source in a released set: present or held, and its values. -/
structure SetSource where
  present : Bool
  values : Phases
  deriving DecidableEq, Repr

/-- R31: a released set; a source whose record is not enabled takes no part. -/
structure ReleasedSet where
  count : Nat
  sources : Vector (Option SetSource) 8
  deriving DecidableEq, Repr

/-- R31: one source in the released set: present with a usable arrival, else held with its last released values. -/
def setSource (last : Phases) (place : Option Sample) : SetSource :=
  match place with
  | some x => if x.usable then ⟨true, x.values⟩ else ⟨false, last⟩
  | none => ⟨false, last⟩

/-- R31: the set at the base. -/
def formSet (b : Bank) (r : Ring) : ReleasedSet where
  count := r.base
  sources := Vector.ofFn fun k =>
    if (b.source k).enabled then some (setSource r.lastValues[k] (r.slots[0])[k]) else none

/-- R10: whether a source is held in the set. -/
def ReleasedSet.isHeld (set : ReleasedSet) (k : Fin 8) : Bool :=
  match set.sources[k] with
  | some x => !x.present
  | none => false

/-- R32: the number of sources held in the set. -/
def ReleasedSet.heldCount (set : ReleasedSet) : Nat := sourceIndices.countP set.isHeld

/-- The values of an enabled source in the set. -/
def ReleasedSet.values (set : ReleasedSet) (k : Fin 8) : Option Phases := (set.sources[k]).map SetSource.values

/-- R33: the last released values after a set; those of a source that is not enabled are kept. -/
def lastValuesAfter (set : ReleasedSet) (last : Vector Phases 8) : Vector Phases 8 :=
  Vector.ofFn fun k => (set.values k).getD last[k]

/-- R32, R33: the held counter and the last released values. -/
def State.noteSet (s : State) (set : ReleasedSet) : State :=
  (s.countHeld set.heldCount).setRing { s.ring with lastValues := lastValuesAfter set s.ring.lastValues }

/-! ### Source states (R11, R12) -/

/-- R11: a source present in the set. -/
def SourceStatus.onPresent (recoverSets : Nat) (x : SourceStatus) : SourceStatus :=
  match x.state with
  | .recovering => if recoverSets ≤ x.run + 1 then ⟨.active, x.run + 1, 0⟩ else { x with run := x.run + 1 }
  | .active => { x with hold := 0 }
  | .lost => ⟨.recovering, 1, 0⟩
  | .disabled => x

/-- R11: a source held in the set. -/
def SourceStatus.onHeld (holdLimit : Nat) (x : SourceStatus) : SourceStatus :=
  match x.state with
  | .recovering => ⟨if holdLimit ≤ x.hold + 1 then .lost else .recovering, 0, x.hold + 1⟩
  | .active => ⟨if holdLimit ≤ x.hold + 1 then .lost else .active, x.run, x.hold + 1⟩
  | .lost => x
  | .disabled => x

/-- R11: a source at a released set; a disabled source takes no part (R10). -/
def nextStatus (b : Bank) (set : ReleasedSet) (k : Fin 8) (x : SourceStatus) : SourceStatus :=
  match set.sources[k] with
  | none => x
  | some y => if y.present then x.onPresent (b.count .recoverSets) else x.onHeld (b.source k).holdLimit

/-- R11: all source states after a released set. -/
def nextSources (b : Bank) (set : ReleasedSet) (v : Vector SourceStatus 8) : Vector SourceStatus 8 :=
  Vector.ofFn fun k => nextStatus b set k v[k]

/-- R12: a SOURCE record for each source whose state differs, in index order. -/
def sourceOffers (before after : Vector SourceStatus 8) (cycle : Nat) (set : Option Nat) : List Offer :=
  (sourceIndices.filter fun k => before[k].state != after[k].state).map fun k =>
    .record ⟨.source k after[k].state, cycle, set⟩

/-- R12: the feeders of the enabled FEEDER records that enter LOST, in the index order of their sources, which is also the
order of their ARC records (log 15: R139 gives none). -/
def lostFeeders (b : Bank) (before after : Vector SourceStatus 8) : List (Fin 6) :=
  (sourceIndices.filter fun k =>
    (b.source k).enabled && (b.source k).role == .feeder && before[k].state != .lost && after[k].state == .lost).map
    fun k => (b.source k).feeder

/-! ### Voltage in use and intake's conditions (R13, R15) -/

/-- Whether the enabled record of a voltage role is ACTIVE. -/
def roleActive (b : Bank) (v : Vector SourceStatus 8) (role : Role) : Bool :=
  match b.voltageSource role with
  | some k => v[k].state == .active
  | none => false

/-- R13: the voltage in use. -/
def selectVoltage (b : Bank) (v : Vector SourceStatus 8) : VoltageInUse :=
  if roleActive b v .voltageMain then .main
  else if roleActive b v .voltageStandby then .standby
  else .none

/-- R15: FEEDER_SOURCE_LOST, at least one enabled FEEDER source is LOST. -/
def anyFeederLost (b : Bank) (v : Vector SourceStatus 8) : Bool :=
  sourceIndices.any fun k => (b.source k).enabled && (b.source k).role == .feeder && v[k].state == .lost

/-- Intake with new source states, the voltage in use and FEEDER_SOURCE_LOST evaluated under a bank (R13, R15). -/
def Intake.withSources (i : Intake) (b : Bank) (v : Vector SourceStatus 8) : Intake :=
  { i with sources := v, voltage := selectVoltage b v, feederLost := anyFeederLost b v }

/-- Intake's conditions, in the order of R15's table (log 15). -/
def intakeConditions : List Condition := [.voltageLost, .standbyInUse, .feederSourceLost]

/-! ### Arc states at a source loss (R139) -/

/-- R139, R149: the ARC record a feeder forced to DARK gives, if it was BURNING or PENDING_OFF and its profile reports
arcs. -/
def darkOffers (b : Bank) (arcs : Vector ArcState 6) (n : Fin 6) (cycle : Nat) (set : Option Nat) : List Offer :=
  if (arcs[n] = .burning ∨ arcs[n] = .pendingOff) ∧ (b.profile n).reportArcs then
    [.record ⟨.arc n .dark, cycle, set⟩]
  else []

/-- The arc states with several feeders made DARK. -/
def darken (arcs : Vector ArcState 6) (ns : List (Fin 6)) : Vector ArcState 6 :=
  Vector.ofFn fun n => if ns.contains n then .dark else arcs[n]

/-- R10 to R15, R66, R139: intake's update at a released set. A lost FEEDER source's window is cleared and its feeder
made DARK; intake's and supervision's records are offered at one moment, stamped with the set's count (R35), the ARC
records of several feeders in the index order of their lost sources (log 15). -/
def State.intakeRelease (s : State) (set : ReleasedSet) : State :=
  let after := nextSources s.bank set s.intake.sources
  let lost := lostFeeders s.bank s.intake.sources after
  let s1 :=
    ((s.setIntake (s.intake.withSources s.bank after)).clearWindows lost).setSupervision
      { s.supervision with arcs := darken s.supervision.arcs lost }
  s1.deliver
    [sourceOffers s.intake.sources after s.tracker.cycle (some set.count)
        ++ changeOffers intakeConditions s s1 s.tracker.cycle (some set.count),
      lost.flatMap fun n => darkOffers s.bank s.supervision.arcs n s.tracker.cycle (some set.count)]

/-- R34: the held active count, the sources held in the set that are ACTIVE after intake's update. -/
def heldActive (set : ReleasedSet) (v : Vector SourceStatus 8) : Nat :=
  sourceIndices.countP fun k => set.isHeld k && v[k].state == .active

/-- R13: the values of the voltage in use in the set. -/
def voltageValues (b : Bank) (v : VoltageInUse) (set : ReleasedSet) : Option Phases :=
  match v with
  | .main => (b.voltageSource .voltageMain).bind set.values
  | .standby => (b.voltageSource .voltageStandby).bind set.values
  | .none => none

/-- R14, R57: a feeder's current values in the set, when its source is ACTIVE and its mode is not OFF. -/
def feederValues (b : Bank) (v : Vector SourceStatus 8) (set : ReleasedSet) (n : Fin 6) : Option Phases :=
  match b.feederSource n with
  | some k => if v[k].state = .active ∧ (b.profile n).mode ≠ .off then set.values k else none
  | none => none

end Sys2Proof.Machine
end

