-- ==== Sys2Proof/Machine/AngleTracker.lean ====
section
/-! DEFINITION. The angle tracker: one released set, and the closing of a cycle (R41 to R53). -/

namespace Sys2Proof.Machine

/-- R43: the angle index, from P before the set's advance. -/
def Tracker.index (t : Tracker) : Nat := t.phase / 256

/-- R49: the tracker goes UNLOCKED, both runs 0. -/
def Tracker.unlock (t : Tracker) : Tracker := { t with locked := false, lockRun := 0, unlockRun := 0 }

/-- R44: the direct and quadrature voltages at sine `s` and cosine `c`. -/
def rotateDirect (x y s c : Iu) : Iu := saturate (roundedShift 13 (x * c + y * s))

@[inherit_doc rotateDirect]
def rotateQuadrature (x y s c : Iu) : Iu := saturate (roundedShift 13 (-x * s + y * c))

/-- R42 to R44: vd and vq of the three phase values of the voltage in use. -/
def Tracker.measure (b : Bank) (v : Phases) (t : Tracker) : Tracker :=
  { t with
    vd := rotateDirect (clarkeAlpha v.a v.b v.c) (clarkeBeta v.b v.c) (b.sine t.index) (b.cosine t.index)
    vq := rotateQuadrature (clarkeAlpha v.a v.b v.c) (clarkeBeta v.b v.c) (b.sine t.index) (b.cosine t.index) }

/-- R45: the sag runs. -/
def Tracker.sagRuns (b : Bank) (t : Tracker) : Tracker :=
  if t.vd < b.param .sagLevel then { t with sagRun := min 4 (t.sagRun + 1), sagClearRun := 0 }
  else { t with sagRun := 0, sagClearRun := min 4 (t.sagClearRun + 1) }

/-- R45: SAG turns on at a sag run of 4 and off at a sag clear run of 4. -/
def Tracker.sagState (t : Tracker) : Tracker :=
  { t with sag := if t.sag then !(t.sagClearRun == 4) else t.sagRun == 4 }

/-- R46: the integrator, frozen while SAG is on. -/
def Tracker.integrate (b : Bank) (t : Tracker) : Tracker :=
  if t.sag then t
  else { t with integrator := clampInt (-16384) 16384 (t.integrator + roundedShift 6 (t.vq * b.param .pllKi)) }

/-- R50: the phase step of a free-running set. -/
def Tracker.freeStep (t : Tracker) : Int := 1024 + roundedShift 8 t.integrator

/-- R47: the phase step of a set with a voltage in use. -/
def Tracker.step (b : Bank) (t : Tracker) : Int :=
  t.freeStep + clampInt (-128) 128 (roundedShift 10 (t.vq * b.param .pllKp))

/-- R49: the lock runs. -/
def Tracker.lockRuns (b : Bank) (t : Tracker) : Tracker :=
  if (t.vq.natAbs : Int) ≤ b.param .lockBand then
    if t.locked then { t with unlockRun := 0 }
    else if 64 ≤ t.lockRun + 1 then { t with locked := true, lockRun := 0, unlockRun := 0 }
    else { t with lockRun := t.lockRun + 1 }
  else if t.locked then
    if 16 ≤ t.unlockRun + 1 then t.unlock else { t with unlockRun := t.unlockRun + 1 }
  else { t with lockRun := 0 }

/-- R48: P advanced by a step. -/
def Tracker.advance (step : Int) (t : Tracker) : Tracker := { t with phase := (((t.phase : Int) + step) % 65536).toNat }

/-- R48: whether the advance ends a cycle. -/
def Tracker.endsCycle (step : Int) (t : Tracker) : Bool := decide (65536 ≤ (t.phase : Int) + step)

/-- R51: the set added to the current cycle. -/
def Tracker.addToCycle (voltage : Bool) (t : Tracker) : Tracker :=
  { t with
    cycleSets := t.cycleSets + 1
    cycleSum := if voltage then t.cycleSum + t.vd else t.cycleSum
    cycleVoltage := t.cycleVoltage && voltage }

/-- R42 to R46: a set with a voltage in use, up to the integrator. -/
def Tracker.withVoltage (b : Bank) (v : Phases) (t : Tracker) : Tracker :=
  (((t.measure b v).sagRuns b).sagState).integrate b

/-- R50: a set with no voltage in use; the lock state is UNLOCKED, since VOLTAGE_LOST is on (log 29). -/
def Tracker.freeRun (t : Tracker) : Tracker := { t.unlock with vd := 0, vq := 0 }

/-- R41: one released set; the answer says whether it ends a cycle. -/
def Tracker.handle (b : Bank) (voltage : Option Phases) (t : Tracker) : Tracker × Bool :=
  match voltage with
  | some v =>
    let t1 := t.withVoltage b v
    let t2 := t1.lockRuns b
    (((t2.advance (t1.step b)).addToCycle true), t2.endsCycle (t1.step b))
  | none =>
    let t1 := t.freeRun
    (((t1.advance t1.freeStep).addToCycle false), t1.endsCycle t1.freeStep)

/-- R41: the tracker handles a set of count `count`; a change of SAG or UNLOCKED is offered with the set's count, also
where VOLTAGE_LOST began at the set (R49, log 32). -/
def State.track (s : State) (count : Nat) (voltage : Option Phases) : State :=
  let s1 := s.setTracker (s.tracker.handle s.bank voltage).1
  s1.offer (changeOffers [.sag, .unlocked] s s1 s.tracker.cycle (some count))

/-! ### Closing a cycle (R52, R53) -/

/-- R52: the cycle mean, formed only where every set of the cycle had a voltage in use. -/
def Tracker.cycleMean (t : Tracker) : Option Int :=
  if t.cycleVoltage then some (truncDiv t.cycleSum t.cycleSets) else none

/-- R52: the fluctuation step, from two consecutive means. -/
def Tracker.fluctuation (t : Tracker) : Option Nat :=
  match t.cycleMean, t.lastMean with
  | some m, some l => some (min 32767 (m - l).natAbs)
  | _, _ => none

/-- R53: OVERVOLTAGE at a boundary, with hysteresis. -/
def Tracker.nextOvervoltage (b : Bank) (t : Tracker) : Bool :=
  match t.cycleMean with
  | none => t.overvoltage
  | some m => if t.overvoltage then decide (b.param .ovLevel - 164 ≤ m) else decide (b.param .ovLevel < m)

/-- R52, steps 1 to 5: the cycle closed and restarted. -/
def Tracker.closeCycle (b : Bank) (t : Tracker) : Tracker :=
  { t with
    cycle := (t.cycle + 1) % 65536
    lastMean := t.cycleMean
    lastStep := t.fluctuation
    overvoltage := t.nextOvervoltage b
    cycleSum := 0
    cycleSets := 0
    cycleVoltage := true }

/-- R52, R53: the tracker closes the cycle; a change of OVERVOLTAGE is offered with the new cycle number. -/
def State.closeCycle (s : State) : State :=
  let s1 := s.setTracker (s.tracker.closeCycle s.bank)
  s1.offerChanges s [.overvoltage]

end Sys2Proof.Machine
end

