-- ==== Sys2Proof/Machine/Windows.lean ====
section
/-! DEFINITION. The transform unit: rotation of the feeder currents, feeding of the windows, averages and the arc
magnitude (R57 to R64). -/

namespace Sys2Proof.Machine

/-- R59: the four components of the two-axis current (x, y) at sine `s` and cosine `c`, fed to a window (R61). -/
def Window.feed (w : Nat) (win : Window) (x y s c : Iu) : Window where
  idPos := win.idPos.feed (saturate (roundedShift 13 (x * c + y * s)))
  iqPos := win.iqPos.feed (saturate (roundedShift 13 (-x * s + y * c)))
  idNeg := win.idNeg.feed (saturate (roundedShift 13 (x * c - y * s)))
  iqNeg := win.iqNeg.feed (saturate (roundedShift 13 (x * s + y * c)))
  fill := if win.fill < w then win.fill + 1 else win.fill

/-- R58 to R61: one feeder at a set: fed with its values, or left as it stands (R69). -/
def Window.onSet (w : Nat) (win : Window) (s c : Iu) (values : Option Phases) : Window :=
  match values with
  | some v => win.feed w (clarkeAlpha v.a v.b v.c) (clarkeBeta v.b v.c) s c
  | none => win

/-- R57: the values each fed feeder has in the set. -/
def fedValues (s : State) (set : ReleasedSet) : Vector (Option Phases) 6 :=
  Vector.ofFn fun n => feederValues s.bank s.intake.sources set n

/-- R57: the transform unit handles a set at angle index `i`. -/
def State.feedWindows (s : State) (i : Nat) (values : Vector (Option Phases) 6) : State :=
  s.setTransform
    { s.transform with
      windows := Vector.ofFn fun n =>
        (s.transform.windows[n]).onSet s.transform.length (s.bank.sine i) (s.bank.cosine i) values[n] }

/-- R62: the averages of one feeder. -/
structure Averages where
  idPos : Iu
  iqPos : Iu
  idNeg : Iu
  iqNeg : Iu
  deriving DecidableEq, Repr

/-- R62: the averages of a feeder's window. -/
def Transform.averages (t : Transform) (n : Fin 6) : Averages :=
  let w := t.windows[n]
  ⟨w.idPos.average t.length, w.iqPos.average t.length, w.idNeg.average t.length, w.iqNeg.average t.length⟩

/-- R64: the arc magnitude estimate A. -/
def Transform.arcMagnitude (t : Transform) (n : Fin 6) : Nat :=
  min 32767 (magnitude (t.averages n).idPos (t.averages n).iqPos)

/-- R64: whether a feeder's window is full. -/
def Transform.full (t : Transform) (n : Fin 6) : Bool := (t.windows[n]).fill == t.length

end Sys2Proof.Machine
end

