-- ==== Sys2Proof/Machine/Compose.lean ====
section
/-! DEFINITION. The reference composer: sums, limits, rationing, phase references, reference source, flags, injection
(R72 to R91). -/

namespace Sys2Proof.Machine

/-- R73, R74: a feeder's contribution of an average, the rounded shift by 8 of weight × −average. -/
def contribution (p : Profile) (avg : Iu) : Int := roundedShift 8 ((p.weight : Int) * -avg)

/-- R73: whether a fed feeder is a reactive feeder. -/
def Profile.isReactive (p : Profile) : Bool := p.mode == .reactive || p.mode == .full

/-- R74: whether a fed feeder is an unbalance feeder. -/
def Profile.isUnbalance (p : Profile) : Bool := p.mode == .full

/-- The sum of `f` over the feeders fed in the set whose profile `use` takes. -/
def sumFeeders (b : Bank) (fed : Vector (Option Phases) 6) (use : Profile → Bool) (f : Fin 6 → Int) : Int :=
  ((feederNumbers.filter fun n => (fed[n]).isSome && use (b.profile n)).map f).sum

/-- R73: the reactive sum Q. -/
def reactiveSum (b : Bank) (t : Transform) (fed : Vector (Option Phases) 6) : Int :=
  b.param .bias + sumFeeders b fed Profile.isReactive fun n => contribution (b.profile n) (t.averages n).iqPos

/-- R74: the negative-sequence sums, saturated. -/
def unbalanceD (b : Bank) (t : Transform) (fed : Vector (Option Phases) 6) : Iu :=
  saturate (sumFeeders b fed Profile.isUnbalance fun n => contribution (b.profile n) (t.averages n).idNeg)

@[inherit_doc unbalanceD]
def unbalanceQ (b : Bank) (t : Transform) (fed : Vector (Option Phases) 6) : Iu :=
  saturate (sumFeeders b fed Profile.isUnbalance fun n => contribution (b.profile n) (t.averages n).iqNeg)

/-- R75: the effective limit Imax. -/
def effectiveLimit (b : Bank) (derate : Bool) (capability : Nat) : Int :=
  if derate then min (capability : Int) (roundedShift 8 (b.param .rating * b.param .derate))
  else min (b.param .rating) (capability : Int)

/-- R76: whether the overvoltage cap applies. -/
def capApplies (b : Bank) (overvoltage : Bool) : Bool := overvoltage && b.param .ovLimit == 1

/-- R76: the upper reactive limit. -/
def upperLimit (b : Bank) (overvoltage : Bool) (imax : Int) : Int :=
  if capApplies b overvoltage then min imax (b.param .ovCap) else imax

/-- R78: one negative-sequence value rationed into the remainder `r`, with `mn` the magnitude estimate of the pair. -/
def ration (mn : Nat) (r : Int) (x : Iu) : Iu := if (mn : Int) ≤ r then x else truncDiv (x * r) mn

/-- The computed demand of a set. -/
structure Demand where
  imax : Int
  upper : Int
  q : Int
  qc : Int
  nd : Iu
  nq : Iu
  ndr : Iu
  nqr : Iu
  capInForce : Bool
  derated : Bool
  deriving DecidableEq, Repr

/-- R77: the set is Q clamped. -/
def Demand.qClamped (d : Demand) : Bool := d.qc != d.q

/-- R78: the set is N scaled. -/
def Demand.nScaled (d : Demand) : Bool := decide (d.imax - d.qc.natAbs < (magnitude d.nd d.nq : Int))

/-- R75 to R78: the limits and the rationing of given sums. -/
def limitDemand (b : Bank) (overvoltage derate : Bool) (capability : Nat) (q : Int) (nd nq : Iu) : Demand :=
  let imax := effectiveLimit b derate capability
  let upper := upperLimit b overvoltage imax
  let qc := clampInt (-imax) upper q
  let r := imax - qc.natAbs
  { imax := imax
    upper := upper
    q := q
    qc := qc
    nd := nd
    nq := nq
    ndr := ration (magnitude nd nq) r nd
    nqr := ration (magnitude nd nq) r nq
    capInForce := capApplies b overvoltage && decide (b.param .ovCap < imax)
    derated := derate }

/-- R72, steps 1 to 3: the computed demand of a set, from the snapshot. -/
def State.demand (s : State) (fed : Vector (Option Phases) 6) : Demand :=
  limitDemand s.bank s.tracker.overvoltage s.linkC.derate s.linkC.capability (reactiveSum s.bank s.transform fed)
    (unbalanceD s.bank s.transform fed) (unbalanceQ s.bank s.transform fed)

/-- R81: the three phase references of α and β. -/
def phasesOf (x y : Iu) : Phases :=
  ⟨x, saturate (roundedShift 15 (-16384 * x + 28378 * y)), saturate (roundedShift 15 (-16384 * x - 28378 * y))⟩

/-- R80: α and β of a demand, then R81. -/
def phaseReferences (s c : Iu) (qx nx ny : Int) : Phases :=
  phasesOf (saturate (roundedShift 13 (-qx * s + nx * c + ny * s)))
    (saturate (roundedShift 13 (qx * c - nx * s + ny * c)))

/-- R79: the output index. -/
def outputIndex (b : Bank) (i : Nat) : Nat := (i + b.count .lead) % 256

/-- R80, R81: the computed references. -/
def computedReferences (b : Bank) (i : Nat) (d : Demand) : Phases :=
  phaseReferences (b.sine (outputIndex b i)) (b.cosine (outputIndex b i)) d.qc d.ndr d.nqr

/-- R83: the quiet references, from BIAS clamped as R77 clamps Q. -/
def quietReferences (b : Bank) (i : Nat) (d : Demand) : Phases :=
  phaseReferences (b.sine (outputIndex b i)) (b.cosine (outputIndex b i)) (clampInt (-d.imax) d.upper (b.param .bias)) 0 0

/-- R82: the reference source of a set, from the snapshot. -/
def State.chooseSource (s : State) : RefSource :=
  if s.composer.injActive then .inject
  else if s.cond .converterBlocked || s.cond .converterStale then .blocked
  else if s.cond .voltageLost || s.cond .unlocked || s.cond .tableFault then .hold
  else if s.cond .quiet then .quiet
  else .computed

/-- R84: the phase values sent. -/
def sentPhases (b : Bank) (i : Nat) (injection : Phases) (d : Demand) : RefSource → Phases
  | .inject => injection
  | .blocked => Phases.zero
  | .hold => Phases.zero
  | .quiet => quietReferences b i d
  | .computed => computedReferences b i d

/-- R89: the countdown at a snapshot that finds an injection active. -/
def Composer.countdown (c : Composer) : Composer :=
  if c.injActive && c.injCounted then
    { c with injRemaining := c.injRemaining - 1, injActive := decide (c.injRemaining - 1 ≠ 0) }
  else c

/-- R84, R86: the last reference source, and the seen flags of a set whose source is COMPUTED. -/
def Composer.noteSource (c : Composer) (src : RefSource) (d : Demand) : Composer :=
  { c with
    lastSource := some src
    qSeen := c.qSeen || (src == .computed && d.qClamped)
    nSeen := c.nSeen || (src == .computed && d.nScaled) }

/-- What the composer hands to the link C port with a set (R85). -/
structure Composed where
  source : RefSource
  phases : Phases
  demand : Demand
  deriving DecidableEq, Repr

/-- R72 to R85: what the composer hands on. -/
def State.composed (s : State) (i : Nat) (fed : Vector (Option Phases) 6) : Composed :=
  let d := s.demand fed
  ⟨s.chooseSource, sentPhases s.bank i s.composer.injValues d s.chooseSource, d⟩

/-- R84 to R86, R89, R91, R183: the composer's own state after a set, blocked seen of the health block, and the change of
INJECTING offered with the set's count. -/
def State.compose (s : State) (count : Nat) (out : Composed) : State :=
  let s1 :=
    (s.setComposer ((s.composer.countdown).noteSource out.source out.demand)).setHealth
      { s.health with blockedSeen := s.health.blockedSeen || out.source == .blocked }
  s1.offer (changeOffers [.injecting] s s1 s.tracker.cycle (some count))

/-- R87: the per-cycle flags rolled. -/
def Composer.roll (c : Composer) : Composer :=
  { c with qClamped := c.qSeen, nScaled := c.nSeen, qSeen := false, nSeen := false }

end Sys2Proof.Machine
end

