-- ==== Sys2Proof/Machine/HealthBlock.lean ====
section
/-! DEFINITION. The health indices: the count of a cycle, the end of an interval and HEALTH_LOW (R183 to R186). -/

namespace Sys2Proof.Machine

/-- The attributes by name: index n of the vectors is attribute n + 1. -/
def fluctuationIndex : Attribute := 0

@[inherit_doc fluctuationIndex]
def completenessIndex : Attribute := 1

@[inherit_doc fluctuationIndex]
def headroomIndex : Attribute := 2

@[inherit_doc fluctuationIndex]
def streamOrderIndex : Attribute := 3

@[inherit_doc fluctuationIndex]
def converterIndex : Attribute := 4

/-- R185: the divisor of an attribute. -/
def divisor (a : Attribute) : Nat :=
  match a.val with
  | 1 => 16
  | 3 => 4
  | _ => 2

/-- R185: the value an interval's raw count gives. -/
def healthValue (a : Attribute) (raw : Nat) : Nat := 253 - min 252 (raw / divisor a)

/-- R186: the test of HEALTH_LOW. -/
def Health.isLow (h : Health) : Bool :=
  ([0, 1, 2, 3, 4] : List Attribute).any fun a => h.threshold[a] != 0 && decide (h.value[a] ≤ h.threshold[a])

/-- R186: HEALTH_LOW evaluated. -/
def Health.evaluate (h : Health) : Health := { h with low := h.isLow }

/-- R185: the end of an interval. -/
def Health.endInterval (h : Health) : Health :=
  let value : Vector Nat 5 := Vector.ofFn fun a => healthValue a h.raw[a]
  Health.evaluate
    { h with
      value := value
      worst := Vector.ofFn fun a => min h.worst[a] value[a]
      raw := Vector.replicate 5 0
      interval := 0 }

/-- R184: the cycle just closed counted: whether its fluctuation step exceeds FLUCT_BAND, whether the roll found it
clamped or scaled, and whether it held a BLOCKED set. -/
def Health.countCycle (h : Health) (fluctuating headroom : Bool) : Health :=
  let h1 := h.count fluctuationIndex (if fluctuating then 1 else 0)
  let h2 := h1.count headroomIndex (if headroom then 1 else 0)
  let h3 := h2.count converterIndex (if h2.blockedSeen then 1 else 0)
  { h3 with blockedSeen := false, interval := h3.interval + 1 }

/-- R184, R185: the health block at a cycle boundary. -/
def Health.onBoundary (interval : Nat) (fluctuating headroom : Bool) (h : Health) : Health :=
  let h1 := h.countCycle fluctuating headroom
  if interval ≤ h1.interval then h1.endInterval else h1

/-- R184: whether a boundary's fluctuation step is above FLUCT_BAND. -/
def fluctuates (b : Bank) (step : Option Nat) : Bool :=
  match step with
  | some n => decide (b.param .fluctBand < (n : Int))
  | none => false

end Sys2Proof.Machine
end

