-- ==== Sys2Proof/Machine/Furnace.lean ====
section
/-! DEFINITION. Furnace supervision: arc qualification, the quiet timer, the trip terms and the swap reaction (R135 to
R149). -/

namespace Sys2Proof.Machine

/-- The figures the transform unit supplies with a boundary (R64), taken before any swap completion there. -/
structure ArcFigures where
  magnitude : Vector Nat 6
  full : Vector Bool 6
  deriving DecidableEq, Repr

/-- R64: the figures of the windows as the set that ended the cycle left them. -/
def Transform.arcFigures (t : Transform) : ArcFigures :=
  ⟨Vector.ofFn fun n => t.arcMagnitude n, Vector.ofFn fun n => t.full n⟩

/-- R136: whether supervision evaluates a feeder at a boundary. -/
def evaluated (b : Bank) (sources : Vector SourceStatus 8) (fig : ArcFigures) (n : Fin 6) : Bool :=
  (match b.feederSource n with
    | some k => sources[k].state == .active
    | none => false)
    && (b.profile n).mode != .off && fig.full[n]

/-- R137: an evaluated feeder's next arc state. -/
def ArcState.next (p : Profile) (a : Int) : ArcState → ArcState
  | .dark => if p.arcOn ≤ a then .pendingOn else .dark
  | .pendingOn => if p.arcOn ≤ a then .burning else .dark
  | .burning => if a < p.arcOff then .pendingOff else .burning
  | .pendingOff => if a < p.arcOff then .dark else .burning

/-- R138: whether a change of arc state completes a qualification. -/
def completesQualification (before after : ArcState) : Bool :=
  (before == .pendingOn && after == .burning) || (before == .pendingOff && after == .dark)

/-- R142: QUIET turned off and the timer cleared by a wake-enabled feeder entering PENDING_ON. -/
def Supervision.wake (v : Supervision) : Supervision := { v with quiet := false, quietTimer := 0 }

/-- R137, R138, R142: one feeder at a boundary, with what supervision offers. -/
def arcStep (b : Bank) (sources : Vector SourceStatus 8) (fig : ArcFigures) (cycle : Nat) (set : Option Nat)
    (v : Supervision) (n : Fin 6) : Supervision × List Offer :=
  if evaluated b sources fig n then
    let before := v.arcs[n]
    let after := before.next (b.profile n) (fig.magnitude[n] : Int)
    let v1 := { v with arcs := v.arcs.set n.val after }
    let report : List Offer :=
      if completesQualification before after && (b.profile n).reportArcs then [.record ⟨.arc n after, cycle, set⟩] else []
    if before = .dark ∧ after = .pendingOn ∧ (b.profile n).wakeEnable ∧ v.quiet then
      (v1.wake, report ++ [.change .quiet false cycle set])
    else (v1, report)
  else (v, [])

/-- R135, step 2: the feeders in order. -/
def arcSteps (b : Bank) (sources : Vector SourceStatus 8) (fig : ArcFigures) (cycle : Nat) (set : Option Nat)
    (v : Supervision) : Supervision × List Offer :=
  feederNumbers.foldl
    (fun acc n =>
      let r := arcStep b sources fig cycle set acc.1 n
      (r.1, acc.2 ++ r.2))
    (v, [])

/-- R140: the quiet timer can run. -/
def quietCanRun (b : Bank) : Bool :=
  b.count .quietCycles != 0 && feederNumbers.any fun n => (b.profile n).wakeEnable

/-- R140: every wake-enabled feeder is DARK. -/
def wakeFeedersDark (b : Bank) (arcs : Vector ArcState 6) : Bool :=
  feederNumbers.all fun n => !(b.profile n).wakeEnable || arcs[n] == .dark

/-- R140, R141: the quiet timer and QUIET at a boundary. -/
def quietStep (b : Bank) (v : Supervision) : Supervision :=
  if v.quiet then if wakeFeedersDark b v.arcs then v else v.wake
  else if quietCanRun b && wakeFeedersDark b v.arcs then
    let timer := countUp 1 v.quietTimer
    { v with quietTimer := timer, quiet := decide (b.count .quietCycles ≤ timer) }
  else { v with quietTimer := 0 }

/-- The change of QUIET between two states of supervision. -/
def quietOffers (before after : Supervision) (cycle : Nat) (set : Option Nat) : List Offer :=
  if before.quiet != after.quiet then [.change .quiet after.quiet cycle set] else []

/-- R145: whether a term holds, given the condition values. -/
def Term.holds (t : Term) (cond : Condition → Bool) : Bool :=
  t.enabled && !t.conditions.isEmpty && t.conditions.all cond

/-- R146: a term's run at a boundary, and whether it triggers: once, when the run rises to the trigger (log 17). -/
def termStep (t : Term) (holds : Bool) (run : Nat) : Nat × Bool :=
  if holds then (min 255 (run + 1), decide (run < 255) && run + 1 == t.trigger) else (0, false)

/-- The term numbers 0..3. -/
def termNumbers : List (Fin 4) := [0, 1, 2, 3]

/-- R145: whether term `n` triggers at this boundary. -/
def termTriggers (b : Bank) (cond : Condition → Bool) (runs : Vector Nat 4) (n : Fin 4) : Bool :=
  (termStep (b.term n) ((b.term n).holds cond) runs[n]).2

/-- R146: the term runs after a boundary. -/
def nextRuns (b : Bank) (cond : Condition → Bool) (runs : Vector Nat 4) : Vector Nat 4 :=
  Vector.ofFn fun n => (termStep (b.term n) ((b.term n).holds cond) runs[n]).1

/-- R145, R146: the trip terms at a boundary, with the TRIP records in term order. -/
def termsStep (b : Bank) (cond : Condition → Bool) (cycle : Nat) (set : Option Nat) (v : Supervision) :
    Supervision × List Offer :=
  ({ v with
      termRuns := nextRuns b cond v.termRuns
      trip := v.trip || termNumbers.any (termTriggers b cond v.termRuns) },
    (termNumbers.filter (termTriggers b cond v.termRuns)).map fun n => .record ⟨.trip n (b.term n).trigger, cycle, set⟩)

/-- R149: the feeders switched off by a swap. -/
def switchedOff (old new : Bank) : List (Fin 6) :=
  feederNumbers.filter fun n => (new.profile n).mode == .off && (old.profile n).mode != .off

/-- R149: supervision's reaction to a swap completion. -/
def Supervision.onSwap (old new : Bank) (v : Supervision) : Supervision :=
  let v1 := { v with arcs := darken v.arcs (switchedOff old new), termRuns := Vector.replicate 4 0 }
  if quietCanRun new then v1 else v1.wake

end Sys2Proof.Machine
end

