-- ==== Sys2Proof/Machine/Swap.lean ====
section
/-! DEFINITION. Swap completion: the table store's own steps and each block's reaction (R16, R37, R38, R54, R67, R68, R126,
R127, R149). -/

namespace Sys2Proof.Machine

/-- R126, steps 1 to 5: the banks exchange roles under the committed digest. -/
def TableStore.swap (t : TableStore) (committed : Word) : TableStore :=
  { t with
    active := t.shadowNumber
    recorded := committed
    pendingSwap := none
    auditInFlight := false
    tableFault := false }

/-- R16: whether a record enabled in both banks restarts its source. -/
def SourceRecord.restarts (old new : SourceRecord) : Bool :=
  old.ident != new.ident || old.role != new.role || old.feeder != new.feeder

/-- R16: one source at a swap completion. -/
def swapStatus (old new : SourceRecord) (x : SourceStatus) : SourceStatus :=
  if new.enabled then if old.enabled && !old.restarts new then x else ⟨.recovering, 0, 0⟩ else ⟨.disabled, 0, 0⟩

/-- R16: all source states at a swap completion. -/
def swapSources (old new : Bank) (v : Vector SourceStatus 8) : Vector SourceStatus 8 :=
  Vector.ofFn fun k => swapStatus (old.source k) (new.source k) v[k]

/-- R37, R54, R67: NOMINAL_FREQUENCY differs. -/
def frequencyChanged (old new : Bank) : Bool := old.param .nominalFrequency != new.param .nominalFrequency

/-- R30, R37: the ring returns to UNSYNCED at a change of NOMINAL_FREQUENCY, its sets and the waiting arrivals discarded;
the last released values and count are kept (log 21). -/
def Ring.onSwap (old new : Bank) (r : Ring) : Ring :=
  if frequencyChanged old new then { r with synced := false, slots := emptySlots, waiting := [] } else r

/-- R54, R49: the tracker at a swap completion; `voltageLostBegins` says that VOLTAGE_LOST turned on at it. -/
def Tracker.onSwap (old new : Bank) (voltageLostBegins : Bool) (t : Tracker) : Tracker :=
  if frequencyChanged old new then { t.unlock with integrator := 0 }
  else if voltageLostBegins then t.unlock
  else t

/-- R68: a feeder's assignment, with the scaling that also decides the clearing. -/
def assignment (b : Bank) (n : Fin 6) : Option (Fin 8 × Word × Nat × Nat) :=
  (b.feederSource n).map fun k => (k, (b.source k).ident, (b.source k).gain, (b.source k).shift)

/-- R67, R68: whether a feeder's window is cleared at a swap completion. -/
def windowCleared (old new : Bank) (n : Fin 6) : Bool :=
  frequencyChanged old new || old.param .window != new.param .window || assignment old n != assignment new n

/-- R67, R68: the transform unit at a swap completion. -/
def Transform.onSwap (old new : Bank) (t : Transform) : Transform where
  length := new.windowLength
  windows := Vector.ofFn fun n => if windowCleared old new n then Window.cleared new.windowLength else t.windows[n]

/-- R126, R127: the state effects of a swap completion in every block. -/
def State.swapped (s : State) (committed : Word) : State :=
  let old := s.bank
  let store := s.store.swap committed
  let new := store.activeBank
  let intake := s.intake.withSources new (swapSources old new s.intake.sources)
  (((((s.setStore store).setIntake intake).setRing (s.ring.onSwap old new)).setTracker
    (s.tracker.onSwap old new (s.intake.voltage != .none && intake.voltage == .none))).setTransform
      (s.transform.onSwap old new)).setSupervision (s.supervision.onSwap old new)

/-- R126, steps 5 and 6: what the table store offers. -/
def swapTableOffers (before after : State) (cycle : Nat) (set : Option Nat) : List Offer :=
  changeOffers [.tableFault] before after cycle set ++ [.record ⟨.swap after.store.active, cycle, set⟩]

/-- R16: what intake offers. -/
def swapIntakeOffers (before after : State) (cycle : Nat) (set : Option Nat) : List Offer :=
  sourceOffers before.intake.sources after.intake.sources cycle set
    ++ changeOffers intakeConditions before after cycle set

/-- R149: what supervision offers, reporting arcs by the old bank's profiles, in feeder order (R135; at a swap made at once,
where no rule orders them, log 15). -/
def swapSupervisionOffers (before after : State) (cycle : Nat) (set : Option Nat) : List Offer :=
  ((switchedOff before.bank after.bank).flatMap fun n => darkOffers before.bank before.supervision.arcs n cycle set)
    ++ quietOffers before.supervision after.supervision cycle set

/-- R126, steps 1 to 6: the swap with the table store's own records taken. -/
def State.swapTables (s : State) (committed : Word) : State :=
  (s.swapped committed).offer
    (swapTableOffers s (s.swapped committed) s.tracker.cycle s.ring.lastReleased)

/-- R127: what intake, the tracker and supervision offer in their reactions, one group for each block. -/
def swapReactionOffers (before after : State) (cycle : Nat) (set : Option Nat) : List (List Offer) :=
  [swapIntakeOffers before after cycle set, changeOffers [.unlocked] before after cycle set,
    swapSupervisionOffers before after cycle set]

/-- R126, last: a swap completed at once while the ring is UNSYNCED. -/
def State.swapAtOnce (s : State) (committed : Word) : State :=
  (s.swapTables committed).deliver
    (swapReactionOffers s (s.swapped committed) s.tracker.cycle s.ring.lastReleased)

end Sys2Proof.Machine
end

