-- ==== Sys2Proof/Machine/Boundary.lean ====
section
/-! DEFINITION. The cycle boundary, delivered to the table store, the composer, the health block and supervision (R52, R87,
R126, R128, R135, R145, R184). -/

namespace Sys2Proof.Machine

/-- R128: the audit count of a boundary, under the bank active after any swap completion there. -/
def TableStore.auditStep (cycles : Nat) (t : TableStore) : TableStore :=
  let c := min cycles (t.auditCounter + 1)
  if cycles ≤ c then
    if t.auditInFlight then { t with auditCounter := c } else { t with auditInFlight := true, auditCounter := 0 }
  else { t with auditCounter := c }

/-- R184: the health block at the boundary; the composer's flags have been rolled. -/
def State.healthBoundary (s : State) : State :=
  s.setHealth
    (s.health.onBoundary (s.bank.count .healthInterval) (fluctuates s.bank s.tracker.lastStep)
      (s.composer.qClamped || s.composer.nScaled))

/-- R135, steps 2 and 3: arc states and quiet timer, with what supervision offers. -/
def State.arcsAndQuiet (s : State) (fig : ArcFigures) : Supervision × List Offer :=
  let arcs := arcSteps s.bank s.intake.sources fig s.tracker.cycle s.ring.lastReleased s.supervision
  let quiet := quietStep s.bank arcs.1
  (quiet, arcs.2 ++ quietOffers arcs.1 quiet s.tracker.cycle s.ring.lastReleased)

/-- R135, step 4: the trip terms, read on a state whose roll, health work and quiet step have been made (R145). -/
def State.trips (s : State) : Supervision × List Offer :=
  termsStep s.bank s.cond s.tracker.cycle s.ring.lastReleased s.supervision

/-- The boundary's work after any swap completion and the composer's roll: health, supervision, the audit count. The
records of the blocks are offered at one moment (log 1): `earlier` holds what supervision offered in its swap reaction,
`others` the groups of intake, the tracker and the composer. -/
def State.boundaryBlocks (s : State) (fig : ArcFigures) (earlier : List Offer) (others : List (List Offer)) : State :=
  let s1 := s.healthBoundary
  let arcs := s1.arcsAndQuiet fig
  let s2 := s1.setSupervision arcs.1
  let trips := s2.trips
  let s3 := (s2.setSupervision trips.1).setStore (s.store.auditStep (s.bank.count .auditCycles))
  s3.deliver
    ((earlier ++ arcs.2 ++ trips.2)
      :: changeOffers [.healthLow] s s3 s.tracker.cycle s.ring.lastReleased :: others)

/-- R87: the composer's roll. -/
def State.rollFlags (s : State) : State := s.setComposer s.composer.roll

/-- R87: what the composer offers at its roll. -/
def State.rollOffers (s : State) : List Offer :=
  changeOffers [.qClamped, .nScaled] s s.rollFlags s.tracker.cycle s.ring.lastReleased

/-- R126 at a boundary: the swap completes, then the boundary's work follows under the new bank; `roll` holds what the
composer still has to offer. -/
def State.boundarySwap (s : State) (committed : Word) (fig : ArcFigures) (roll : List Offer) : State :=
  (s.swapTables committed).boundaryBlocks fig
    (swapSupervisionOffers s (s.swapped committed) s.tracker.cycle s.ring.lastReleased)
    [swapIntakeOffers s (s.swapped committed) s.tracker.cycle s.ring.lastReleased,
      changeOffers [.unlocked] s (s.swapped committed) s.tracker.cycle s.ring.lastReleased, roll]

/-- R52: the boundary, one event delivered to every block (log 33), after the tracker has closed the cycle. Whether the
composer's roll is routed before or after a swap completion at the same boundary is open (R92): the free value decides
(log 2). -/
def State.takeBoundary (s : State) (fig : ArcFigures) : State :=
  match s.store.pendingSwap with
  | none => s.rollFlags.boundaryBlocks fig [] [s.rollOffers]
  | some committed =>
    if s.rollOffers.isEmpty then s.rollFlags.boundarySwap committed fig []
    else
      let s1 := s.rollFlags.setEvents s.events (s.picks + 1)
      if Config.recordOrder s.picks % 2 = 0 then s1.boundarySwap committed fig s.rollOffers
      else (s1.offer s.rollOffers).boundarySwap committed fig []

end Sys2Proof.Machine
end

