-- ==== Sys2Proof/Machine/ConverterPort.lean ====
section
/-! DEFINITION. The link C port: reference frames, the monitor output, converter status, staleness and derating (R95 to
R104). -/

namespace Sys2Proof.Machine

/-- The code of a reference source in the reference frame and the status record. -/
def RefSource.code : RefSource → Nat
  | .inject => 1
  | .blocked => 2
  | .hold => 3
  | .quiet => 4
  | .computed => 5

/-- R98: the quantity in force, and whether it came from the straps. -/
def State.monitorQuantity (s : State) : Nat × Bool :=
  match s.engine.monitor with
  | .strap => (s.pins.mon.toNat, true)
  | .quantity n => (n.val, false)

/-- R97: the monitor value of a set. -/
def State.monitorValue (s : State) (d : Demand) (n : Nat) : Int :=
  match n with
  | 0 => 0
  | 1 => s.tracker.vd
  | 2 => s.tracker.vq
  | 3 => s.tracker.integrator
  | 4 => d.qc
  | 5 => d.ndr
  | 6 => d.nqr
  | 7 => d.imax
  | 14 => s.tracker.lastMean.getD 0
  | 15 => ((s.tracker.lastStep.getD 0 : Nat) : Int)
  | m => ((feederNumbers[m - 8]?).map fun k => (s.transform.averages k).iqPos).getD 0

/-- Word 3 of the reference frame: the source and the six flags (R96). -/
def State.sourceAndFlags (s : State) (out : Composed) (heldUsed : Bool) : Word :=
  wordOf out.source.code + bitWord 8 out.demand.qClamped + bitWord 9 out.demand.nScaled
    + bitWord 10 out.demand.capInForce + bitWord 11 out.demand.derated + bitWord 12 s.supervision.trip
    + bitWord 13 heldUsed

/-- R95: the reference frame of a set. -/
def State.referenceFrame (s : State) (count : Nat) (out : Composed) (heldUsed : Bool) : List Word :=
  sealFrame 0x0C01
    [wordOf count, s.sourceAndFlags out heldUsed, signedWord out.phases.a, signedWord out.phases.b,
      signedWord out.phases.c, wordOf s.monitorQuantity.1 + bitWord 8 s.monitorQuantity.2,
      signedWord (s.monitorValue out.demand s.monitorQuantity.1)]

/-- R103: the stale run after a reference frame has been sent. -/
def LinkC.countSet (b : Bank) (l : LinkC) : LinkC :=
  let run := min 1024 (l.staleRun + 1)
  { l with staleRun := run, stale := l.stale || decide (b.count .staleSets ≤ run) }

/-- R103: the stale count of a set whose frame has left; CONVERTER_STALE is offered with the set's count. -/
def State.countStale (s : State) (count : Nat) : State :=
  let s1 := s.setLinkC (s.linkC.countSet s.bank)
  s1.offer (changeOffers [.converterStale] s s1 s.tracker.cycle (some count))

/-- R104: THERMAL_DERATE and the thermal clear run at a status frame. -/
def LinkC.thermalStep (thermalClear : Nat) (warning : Bool) (l : LinkC) : LinkC :=
  if warning then { l with derate := true, thermalRun := 0 }
  else if l.derate then
    if thermalClear ≤ l.thermalRun + 1 then { l with derate := false, thermalRun := 0 }
    else { l with thermalRun := l.thermalRun + 1 }
  else l

/-- R101: a status frame taken. -/
def LinkC.takeStatus (b : Bank) (st : ConverterStatus) (l : LinkC) : LinkC :=
  LinkC.thermalStep (b.count .thermalClear) st.thermal { l with status := some st, staleRun := 0, stale := false }

/-- The link C port's conditions, in the order R101 evaluates them. -/
def linkCConditions : List Condition := [.converterStale, .converterBlocked, .thermalDerate]

/-- R101: a converter status frame that passed R100. -/
def State.takeStatus (s : State) (st : ConverterStatus) : State :=
  (s.setLinkC (s.linkC.takeStatus s.bank st)).offerChanges s linkCConditions

/-- R102: an edge of CBLK taken by the port. -/
def State.takeEdge (s : State) (high : Bool) : State :=
  (s.setLinkC { s.linkC with blockLine := high }).offerChanges s [.converterBlocked]

end Sys2Proof.Machine
end

