-- ==== Sys2Proof/Machine/Layouts.lean ====
section
/-! DEFINITION. The frames and records the part sends on link M: response frame, event record, status record (R157, R167,
R174, spec/11). -/

namespace Sys2Proof.Machine

/-- The outcomes of R157. -/
inductive ReplyOutcome where
  | ok | clamped | partialEnd | badValue | badTable | refusedByState | expired | pending | notPending | digest | conflict
  | noCode | codeMismatch | unknownRequest
  deriving DecidableEq, Repr

/-- The outcome codes of spec/11. -/
def ReplyOutcome.code : ReplyOutcome → Nat
  | .ok => 0
  | .clamped => 1
  | .partialEnd => 2
  | .badValue => 3
  | .badTable => 4
  | .refusedByState => 5
  | .expired => 6
  | .pending => 7
  | .notPending => 8
  | .digest => 9
  | .conflict => 10
  | .noCode => 11
  | .codeMismatch => 12
  | .unknownRequest => 13

/-- The code of a protection state. -/
def Protection.code : Protection → Nat
  | .opened => 0
  | .unlocked => 1
  | .locked => 2
  | .frozen => 3

/-- What a request is answered with: outcome, next index, remaining count and payload (R157). -/
structure Reply where
  outcome : ReplyOutcome
  next : Nat
  remaining : Nat
  payload : List Word
  deriving DecidableEq, Repr

/-- An answer with next index and remaining count 0. -/
def Reply.plain (o : ReplyOutcome) (payload : List Word) : Reply := ⟨o, 0, 0, payload⟩

/-- Word 5 of a response: protection state, expiry and the attention flag as they stand (R157). -/
def State.stateWord (s : State) : Word :=
  wordOf s.engine.protection.code + bitWord 2 s.engine.expiry + bitWord 3 (!s.events.queue.isEmpty)

/-- R157: the response frame of a request. -/
def State.responseFrame (s : State) (r : Request) (p : Reply) : List Word :=
  sealFrame 0x0A03
    ([wordOf (r.address.toNat + r.tag.toNat * 256), r.code, wordOf p.outcome.code, s.stateWord, wordOf p.next,
      wordOf p.remaining] ++ p.payload)

/-- The code of a source state. -/
def SourceState.code : SourceState → Nat
  | .disabled => 0
  | .recovering => 1
  | .active => 2
  | .lost => 3

/-- The code of an arc state. -/
def ArcState.code : ArcState → Nat
  | .dark => 0
  | .pendingOn => 1
  | .burning => 2
  | .pendingOff => 3

/-- The monitor selection in the status record form: 0x0100 for STRAP. -/
def MonitorSelection.code : MonitorSelection → Nat
  | .strap => 0x0100
  | .quantity n => n.val

/-- The attention mode in a SET_ATTENTION_MODE response. -/
def AttentionMode.code : AttentionMode → Nat
  | .latched => 0
  | .pulsed => 1

/-- Kind code, subject and detail of an event record (spec/11, "Event record"). -/
def EventBody.codes : EventBody → Nat × Option Nat × Nat
  | .reset kind result =>
    (1, some (match kind with | .powerOn => 0 | .hard => 1 | .soft => 2),
      match result with | .pass => 0 | .banksReinit => 1)
  | .link l regained => (2, some (match l with | .m => 0 | .c => 1), if regained then 1 else 0)
  | .source k st => (3, some k.val, st.code)
  | .resync k n => (4, some k.val, n)
  | .condition c on => (5, some c.code, if on then 1 else 0)
  | .swap b => (6, none, b.val)
  | .arc n st => (7, some n.val, st.code)
  | .trip n trigger => (8, some n.val, trigger)
  | .access n => (9, none, n)

/-- The five words of an event record. -/
def EventRecord.words (e : EventRecord) : List Word :=
  let c := e.body.codes
  [wordOf c.1 + bitWord 15 c.2.1.isSome + bitWord 14 e.setCount.isSome, wordOf (c.2.1.getD 0), wordOf c.2.2,
    wordOf e.cycle, wordOf (e.setCount.getD 0)]

/-- Codes packed into one word, `bits` bits each, the first in the lowest bits. -/
def packCodes (bits : Nat) (codes : List Nat) : Nat := codes.foldr (fun c acc => c + acc * 2 ^ bits) 0

/-- The voltage in use in the status record. -/
def VoltageInUse.code : VoltageInUse → Nat
  | .none => 0
  | .main => 1
  | .standby => 2

/-- R167: the status record. -/
def State.statusRecord (s : State) : List Word :=
  [wordOf ((s.composer.lastSource.map RefSource.code).getD 0),
    wordOf (s.engine.protection.code + s.engine.attempts % 8 * 4) + bitWord 5 s.engine.expiry,
    wordOf s.store.active.val + bitWord 1 s.store.pendingSwap.isSome + bitWord 2 s.store.auditInFlight,
    bitWord 0 s.tracker.locked + wordOf (s.intake.voltage.code * 2),
    wordOf (packCodes 2 (s.intake.sources.toList.map fun x => x.state.code)),
    wordOf (packCodes 2 (s.supervision.arcs.toList.map ArcState.code)),
    wordOf (packCodes 1 (Condition.all.map fun c => if s.cond c then 1 else 0)),
    bitWord 0 s.supervision.trip + bitWord 1 s.supervision.quiet,
    wordOf s.composer.injRemaining,
    wordOf s.intake.counters.malformed,
    wordOf s.intake.counters.foreign,
    wordOf s.intake.counters.duplicate,
    wordOf s.intake.counters.late,
    wordOf s.intake.counters.held,
    wordOf s.intake.counters.resync]
  ++ s.intake.counters.saturation.toList.map wordOf
  ++ [wordOf s.engine.overrun,
    wordOf (s.events.queue.length % 32) + bitWord 15 s.events.overflow,
    wordOf s.linkC.capability,
    wordOf s.linkC.faultCode,
    wordOf s.engine.monitor.code,
    wordOf s.tracker.cycle]

/-- R187: the payload of READ_HEALTH. -/
def Health.words (h : Health) : List Word :=
  (([0, 1, 2, 3, 4] : List Attribute).flatMap fun a =>
    [wordOf h.value[a], wordOf h.worst[a], wordOf h.threshold[a], wordOf h.raw[a]])
  ++ [wordOf h.interval, bitWord 0 h.low]

/-- The five thresholds of a SET_THRESHOLD response (R188). -/
def Health.thresholdWords (h : Health) : List Word := h.threshold.toList.map wordOf

end Sys2Proof.Machine
end

