-- ==== Sys2Proof/Machine/Engine.lean ====
section
/-! DEFINITION. The management engine: taking a request frame, the gate, the service of the request at the head of the queue
(R153 to R159). -/

namespace Sys2Proof.Machine

/-- R154: a request offered to the queue. -/
def Engine.offerRequest (r : Request) (e : Engine) : Engine :=
  if e.queue.length < 4 then { e with queue := e.queue ++ [r] } else { e with overrun := countUp 1 e.overrun }

/-- R153: a request frame that passed the port's tests; one for another part is dropped. -/
def State.takeRequest (s : State) (r : Request) : State :=
  if r.address = s.engine.address ∨ r.broadcast then s.setEngine (s.engine.offerRequest r) else s

/-- R2, R3: a frame received on link M, judged whole; none is received while the receiver is not synchronised (log 6). -/
def State.receiveM (s : State) (frame : List Word) : State :=
  if s.linkMSynced then
    match judgeLinkM frame with
    | .malformed => s.countMalformed
    | .sample f => s.intakeSample f
    | .request r => s.takeRequest r
  else s

/-- R100, R101: a frame received on link C, judged whole; none is received while the receiver is not synchronised. -/
def State.receiveC (s : State) (frame : List Word) : State :=
  if s.linkC.synced then
    match judgeLinkC frame with
    | some st => s.takeStatus st
    | none => s.countMalformed
  else s

/-! ### The gate (R159) -/

/-- R159: the outcome with which the gate refuses a known request, or none where it is let through. -/
def gate (p : Protection) (c : RequestCode) : Option ReplyOutcome :=
  match c, p with
  | .echo, _ => none
  | .readStatus, _ => none
  | .readTable, _ => none
  | .readEvents, _ => none
  | .readHealth, _ => none
  | .setMonitor, _ => none
  | .wake, _ => none
  | .clearTrip, _ => none
  | .injectClear, _ => none
  | .freeze, _ => none
  | .clearCode, .opened => some .noCode
  | .unlock, .opened => some .noCode
  | .lock, .opened => some .noCode
  | _, .opened => none
  | _, .unlocked => none
  | .unlock, .locked => none
  | .lock, .locked => none
  | _, .locked => some .refusedByState
  | _, .frozen => some .refusedByState

/-- R159: the answer of a refused request; a WRITE_TABLE carries its start index as next index. -/
def refusedReply (c : RequestCode) (r : Request) (o : ReplyOutcome) : Reply :=
  ⟨o, if c = .writeTable then r.start else 0, 0, []⟩

/-! ### Service (R155, R156, R157) -/

/-- R155, step 4: the request at the head leaves the queue and no operation is in service. -/
def State.removeHead (s : State) : State :=
  s.setEngine { s.engine with queue := s.engine.queue.tail, operation := none }

/-- R155, steps 3 and 4: the response of an addressed request built on the state its handling left, none for a
broadcast; then the removal. -/
def State.answer (s : State) (r : Request) (p : Reply) : State :=
  (if r.broadcast then s else s.sendM (s.responseFrame r p)).removeHead

/-- What a request's handling leaves: a state, and its answer, or none where its service goes on (R121, R122, R169). -/
structure Handled where
  state : State
  reply : Option Reply

/-- A handling that ends at once. -/
def State.handled (s : State) (p : Reply) : Handled := ⟨s, some p⟩

/-- A handling whose service goes on with an operation. -/
def State.goesOn (s : State) (op : Operation) : Handled :=
  ⟨s.setEngine { s.engine with operation := some op }, none⟩

/-- R155: what follows a handling. -/
def Handled.close (h : Handled) (r : Request) : State :=
  match h.reply with
  | some p => h.state.answer r p
  | none => h.state

/-- R155, R156, R159: the service of the request at the head of the queue, which is of code `c`: dropped as a broadcast,
refused by the gate, or handled. -/
def State.serveRequest (s : State) (c : RequestCode) (handle : State → Request → Handled) (r : Request) : State :=
  if r.broadcast && !c.servedBroadcast then s.removeHead
  else
    match gate s.engine.protection c with
    | some o => s.answer r (refusedReply c r o)
    | none => (handle s r).close r

/-- A service command: it has an effect where the part runs, no operation is in service and the request at the head is
of code `c` (log 8). -/
def State.serve (s : State) (c : RequestCode) (handle : State → Request → Handled) : State :=
  s.whenRunning fun s =>
    match s.engine.operation, s.engine.queue with
    | none, r :: _ => if RequestCode.ofWord r.code = some c then s.serveRequest c handle r else s
    | _, _ => s

/-- The end of an operation in service: `finish` answers the request at the head (log 8). -/
def State.complete (s : State) (op : Operation) (finish : State → Request → State) : State :=
  s.whenRunning fun s =>
    match s.engine.queue with
    | r :: _ => if s.engine.operation = some op then finish s r else s
    | [] => s

end Sys2Proof.Machine
end

