-- ==== Sys2Proof/Machine/Requests.lean ====
section
/-! DEFINITION. The meanings of REQUEST_FRAME and of the requests that no table owns (R88, R90, R99, R143, R148, R158, R160 to
R167, R177, R180, R187, R188). -/

namespace Sys2Proof.Machine

/-- R166: ECHO. -/
def handleEcho (s : State) (_ : Request) : Handled := s.handled (Reply.plain .ok [0x005A, 0x3C96])

/-- R167: READ_STATUS. -/
def handleReadStatus (s : State) (_ : Request) : Handled := s.handled (Reply.plain .ok s.statusRecord)

/-- R177, R178: the event unit after a READ_EVENTS of `n` records. -/
def EventUnit.removeOldest (mode : AttentionMode) (n : Nat) (e : EventUnit) : EventUnit :=
  { e with
    queue := e.queue.drop n
    overflow := false
    line := if mode = .latched then !(e.queue.drop n).isEmpty else e.line }

/-- R177: READ_EVENTS. -/
def handleReadEvents (s : State) (r : Request) : Handled :=
  let n := r.param 0
  if n < 1 ∨ 8 < n then s.handled (Reply.plain .badValue [])
  else
    let taken := s.events.queue.take n
    (s.setEvents (s.events.removeOldest s.engine.attention n) s.picks).handled
      (Reply.plain .ok
        ([wordOf taken.length, wordOf (s.events.queue.length - taken.length), bitWord 0 s.events.overflow]
          ++ taken.flatMap EventRecord.words))

/-- R187: READ_HEALTH. -/
def handleReadHealth (s : State) (_ : Request) : Handled := s.handled (Reply.plain .ok s.health.words)

/-- R99: the selection a SET_MONITOR parameter names. -/
def monitorOf (n : Nat) : Option MonitorSelection :=
  if n = 0x0100 then some .strap else if h : n < 16 then some (.quantity ⟨n, h⟩) else none

/-- R99: SET_MONITOR. -/
def handleSetMonitor (s : State) (r : Request) : Handled :=
  match monitorOf (r.param 0) with
  | some m => (s.setEngine { s.engine with monitor := m }).handled (Reply.plain .ok [wordOf m.code])
  | none => s.handled (Reply.plain .badValue [wordOf s.engine.monitor.code])

/-- R143: WAKE. -/
def handleWake (s : State) (_ : Request) : Handled :=
  ((s.setSupervision s.supervision.wake).offerChanges s [.quiet]).handled (Reply.plain .ok [])

/-- R148: CLEAR_TRIP. -/
def handleClearTrip (s : State) (_ : Request) : Handled :=
  (s.setSupervision { s.supervision with trip := false, termRuns := Vector.replicate 4 0 }).handled
    (Reply.plain .ok [])

/-- R88: the injection record an INJECT request writes, each value clamped. -/
def Composer.inject (v : Phases) (duration : Nat) (c : Composer) : Composer :=
  { c with
    injActive := true
    injValues := ⟨saturate v.a, saturate v.b, saturate v.c⟩
    injCounted := duration != 0
    injRemaining := duration }

/-- The phase values an INJECT request carries. -/
def Request.phases (r : Request) : Phases := ⟨r.phase 0, r.phase 1, r.phase 2⟩

/-- R88, R91: INJECT. -/
def handleInject (s : State) (r : Request) : Handled :=
  let c := s.composer.inject r.phases (r.param 6)
  ((s.setComposer c).offerChanges s [.injecting]).handled
    (Reply.plain (if c.injValues = r.phases then .ok else .clamped) [])

/-- R90, R91: INJECT_CLEAR. -/
def handleInjectClear (s : State) (_ : Request) : Handled :=
  if s.composer.injActive then
    ((s.setComposer { s.composer with injActive := false, injRemaining := 0 }).offerChanges s [.injecting]).handled
      (Reply.plain .ok [])
  else s.handled (Reply.plain .ok [])

/-- R188: SET_THRESHOLD. -/
def handleSetThreshold (s : State) (r : Request) : Handled :=
  let a := r.param 0
  let n := r.param 1
  if h : 1 ≤ a ∧ a ≤ 5 ∧ n ≤ 253 then
    let health := Health.evaluate { s.health with threshold := s.health.threshold.set (a - 1) n (by omega) }
    ((s.setHealth health).offerChanges s [.healthLow]).handled (Reply.plain .ok health.thresholdWords)
  else s.handled (Reply.plain .badValue s.health.thresholdWords)

/-- The attention mode a SET_ATTENTION_MODE parameter names. -/
def attentionOf (n : Nat) : Option AttentionMode :=
  match n with
  | 0 => some .latched
  | 1 => some .pulsed
  | _ => none

/-- R180: the event unit when the attention mode changes to `m`. -/
def EventUnit.changeMode (m : AttentionMode) (e : EventUnit) : EventUnit :=
  match m with
  | .latched => { e with line := !e.queue.isEmpty, pulse := none }
  | .pulsed => { e with line := false }

/-- R180: SET_ATTENTION_MODE. -/
def handleSetAttentionMode (s : State) (r : Request) : Handled :=
  match attentionOf (r.param 0) with
  | none => s.handled (Reply.plain .badValue [wordOf s.engine.attention.code])
  | some m =>
    if m = s.engine.attention then s.handled (Reply.plain .ok [wordOf m.code])
    else
      ((s.setEngine { s.engine with attention := m }).setEvents (s.events.changeMode m) s.picks).handled
        (Reply.plain .ok [wordOf m.code])

/-- R160: SET_CODE, let through in OPEN and UNLOCKED. -/
def handleSetCode (s : State) (r : Request) : Handled :=
  (s.setEngine { s.engine with code := some r.accessCode, protection := .unlocked }).handled (Reply.plain .ok [])

/-- R161: CLEAR_CODE, let through in UNLOCKED. -/
def handleClearCode (s : State) (_ : Request) : Handled :=
  (s.setEngine { s.engine with code := none, protection := .opened }).handled (Reply.plain .ok [])

/-- R162, R163: UNLOCK, let through in UNLOCKED and LOCKED. -/
def handleUnlock (s : State) (r : Request) : Handled :=
  if s.engine.protection = .unlocked then s.handled (Reply.plain .ok [])
  else if s.engine.expiry then s.handled (Reply.plain .expired [])
  else if s.engine.code = some r.accessCode then
    (s.setEngine { s.engine with protection := .unlocked, attempts := 0 }).handled (Reply.plain .ok [])
  else
    let s1 := s.setEngine { s.engine with attempts := s.engine.attempts + 1 }
    (if s1.engine.expiry then s1.record (.access 5) else s1).handled (Reply.plain .codeMismatch [])

/-- R164: LOCK, let through in UNLOCKED and LOCKED. -/
def handleLock (s : State) (_ : Request) : Handled :=
  (s.setEngine { s.engine with protection := .locked }).handled (Reply.plain .ok [])

/-- R165: FREEZE, refused while a swap is pending. -/
def handleFreeze (s : State) (_ : Request) : Handled :=
  if s.engine.protection = .frozen then s.handled (Reply.plain .ok [])
  else if s.store.pendingSwap.isSome then s.handled (Reply.plain .pending [])
  else (s.setEngine { s.engine with protection := .frozen }).handled (Reply.plain .ok [])

/-- R159, R169: RESET_CONTROLLER, let through the gate, requests a soft reset. -/
def handleResetController (s : State) (_ : Request) : Handled := s.goesOn .softReset

/-- R156, R158: a request with an unknown code at the head: answered UNKNOWN_REQUEST, or dropped as a broadcast. -/
def State.serveUnknown (s : State) : State :=
  s.whenRunning fun s =>
    match s.engine.operation, s.engine.queue with
    | none, r :: _ =>
      if RequestCode.ofWord r.code = none then s.answer r (Reply.plain .unknownRequest []) else s
    | _, _ => s

/-- R179: the pulse ends. -/
def State.endPulse (s : State) : State :=
  if s.engine.attention = .pulsed ∧ s.events.pulse.isSome then
    s.setEvents { s.events with line := false, pulse := none } s.picks
  else s

/-- REQUEST_FRAME. -/
def execRequestFrame (frame : List Word) (s : State) : Result := .next (s.whenRunning fun s => s.receiveM frame)

/-- ECHO. -/
def execEcho (s : State) : Result := .next (s.serve .echo handleEcho)

/-- READ_STATUS. -/
def execReadStatus (s : State) : Result := .next (s.serve .readStatus handleReadStatus)

/-- READ_EVENTS. -/
def execReadEvents (s : State) : Result := .next (s.serve .readEvents handleReadEvents)

/-- READ_HEALTH. -/
def execReadHealth (s : State) : Result := .next (s.serve .readHealth handleReadHealth)

/-- SET_MONITOR. -/
def execSetMonitor (s : State) : Result := .next (s.serve .setMonitor handleSetMonitor)

/-- WAKE. -/
def execWake (s : State) : Result := .next (s.serve .wake handleWake)

/-- CLEAR_TRIP. -/
def execClearTrip (s : State) : Result := .next (s.serve .clearTrip handleClearTrip)

/-- INJECT. -/
def execInject (s : State) : Result := .next (s.serve .inject handleInject)

/-- INJECT_CLEAR. -/
def execInjectClear (s : State) : Result := .next (s.serve .injectClear handleInjectClear)

/-- SET_THRESHOLD. -/
def execSetThreshold (s : State) : Result := .next (s.serve .setThreshold handleSetThreshold)

/-- SET_ATTENTION_MODE. -/
def execSetAttentionMode (s : State) : Result := .next (s.serve .setAttentionMode handleSetAttentionMode)

/-- RESET_CONTROLLER. -/
def execResetController (s : State) : Result := .next (s.serve .resetController handleResetController)

/-- SET_CODE. -/
def execSetCode (s : State) : Result := .next (s.serve .setCode handleSetCode)

/-- CLEAR_CODE. -/
def execClearCode (s : State) : Result := .next (s.serve .clearCode handleClearCode)

/-- UNLOCK. -/
def execUnlock (s : State) : Result := .next (s.serve .unlock handleUnlock)

/-- LOCK. -/
def execLock (s : State) : Result := .next (s.serve .lock handleLock)

/-- FREEZE. -/
def execFreeze (s : State) : Result := .next (s.serve .freeze handleFreeze)

/-- UNKNOWN_REQUEST. -/
def execUnknownRequest (s : State) : Result := .next s.serveUnknown

/-- ATTENTION_PULSE_END. -/
def execAttentionPulseEnd (s : State) : Result := .next (s.whenRunning State.endPulse)

end Sys2Proof.Machine
end

