-- ==== Sys2Proof/Machine/TableRequests.lean ====
section
/-! DEFINITION. The meanings of READ_TABLE, WRITE_TABLE, CLONE, COMMIT_SWAP, their completions, CANCEL_SWAP and
AUDIT_COMPLETION (R117 to R129). -/

namespace Sys2Proof.Machine

/-- How a WRITE_TABLE list ended (R118). -/
inductive ListEnd where
  | whole | pastEnd | undefinedCode
  deriving DecidableEq, Repr

/-- What a WRITE_TABLE list did (R118): the bank, how many entries were written, whether one was clamped, and how the list
ended. -/
structure ListWrite where
  bank : Bank
  written : Nat
  clamped : Bool
  ending : ListEnd
  deriving DecidableEq, Repr

/-- R118: the index a table entry is at; SINE wraps from 255 to 0. -/
def TableId.place (t : TableId) (i : Nat) : Nat := if t = .sine then i % 256 else i

/-- R118: an index at or beyond the end of a table that does not wrap. -/
def TableId.beyond (t : TableId) (i : Nat) : Bool := t != .sine && decide (t.entries ≤ i)

/-- R118: the entries of a list written from index `i`. -/
def writeEntries (t : TableId) (i : Nat) (b : Bank) : List (List Word) → ListWrite
  | [] => ⟨b, 0, false, .whole⟩
  | e :: rest =>
    if t.beyond i then ⟨b, 0, false, .pastEnd⟩
    else
      match storeEntry t (t.place i) e with
      | none => ⟨b, 0, false, .undefinedCode⟩
      | some v =>
        let r := writeEntries t (i + 1) (b.setEntry t (t.place i) v) rest
        ⟨r.bank, r.written + 1, r.clamped || v != e, r.ending⟩

/-- R119: the outcome of a written list. -/
def ListWrite.outcome (w : ListWrite) : ReplyOutcome :=
  match w.ending with
  | .undefinedCode => .badValue
  | .pastEnd => .partialEnd
  | .whole => if w.clamped then .clamped else .ok

/-- R119, R120: the next index after `n` entries from `start`. -/
def nextIndex (t : TableId) (start n : Nat) : Nat := if t = .sine then (start + n) % 256 else start + n

/-- R117 to R119: WRITE_TABLE at the table store, with those entries of its list that `part` leaves. -/
def handleList (part : List (List Word) → List (List Word)) (s : State) (r : Request) : Handled :=
  if s.store.pendingSwap.isSome then s.handled ⟨.pending, r.start, 0, []⟩
  else
    match TableId.ofWord r.selector with
    | none => s.handled ⟨.badTable, r.start, 0, []⟩
    | some t =>
      let entries := part (splitEntries t.entryWords r.params)
      let w := writeEntries t r.start s.store.shadowBank entries
      (s.setStore (s.store.setShadow w.bank)).handled
        ⟨w.outcome, nextIndex t r.start w.written, entries.length - w.written, []⟩

/-- R117 to R119: WRITE_TABLE with its whole list. -/
def handleWriteTable (s : State) (r : Request) : Handled := handleList id s r

/-- R132: the banks as a reset leaves them that falls inside the service of the WRITE_TABLE at the head of the queue, `n`
entries of its list having been handled: those written stay written, the rest are not; no response is sent (log 31). -/
def State.cutWrite (n : Nat) (s : State) : State := s.setStore (s.serve .writeTable (handleList (List.take n))).store

/-- R120: up to `n` entries from index `i`. -/
def readEntries (b : Bank) (t : TableId) : Nat → Nat → List (List Word)
  | 0, _ => []
  | n + 1, i => if t.beyond i then [] else b.entry t (t.place i) :: readEntries b t n (i + 1)

/-- R120: READ_TABLE. -/
def handleReadTable (s : State) (r : Request) : Handled :=
  match TableId.ofWord r.selector with
  | none => s.handled ⟨.badTable, r.start, 0, []⟩
  | some t =>
    let count := r.param 1
    if 1 < r.param 0 ∨ count < 1 ∨ 32 < count then s.handled ⟨.badValue, r.start, 0, []⟩
    else
      let entries := readEntries (s.store.bank (if r.param 0 = 0 then 0 else 1)) t count r.start
      s.handled
        ⟨if entries.length < count then .partialEnd else .ok, nextIndex t r.start entries.length,
          count - entries.length, entries.flatten⟩

/-- R121: CLONE begins, or is refused while a swap is pending. -/
def handleClone (s : State) (_ : Request) : Handled :=
  if s.store.pendingSwap.isSome then s.handled (Reply.plain .pending []) else s.goesOn .clone

/-- R121: at the clone's completion the shadow takes the active bank's contents whole. -/
def finishClone (s : State) (r : Request) : State :=
  (s.setStore (s.store.setShadow s.store.activeBank)).answer r (Reply.plain .ok [s.store.activeBank.digest])

/-- R122: COMMIT_SWAP begins, or is refused while a swap is pending. -/
def handleCommitSwap (s : State) (_ : Request) : Handled :=
  if s.store.pendingSwap.isSome then s.handled (Reply.plain .pending []) else s.goesOn .commit

/-- R122, R123: the answer of a commit's completion, and the committed digest of the swap it makes pending. -/
def commitResult (shadow : Bank) (expected : Nat) : Reply × Option Word :=
  if shadow.digest.toNat = expected then
    match shadow.conflict with
    | some (t, k) => (⟨.conflict, k, 0, [wordOf t.code]⟩, none)
    | none => (Reply.plain .ok [shadow.digest], some shadow.digest)
  else (Reply.plain .digest [shadow.digest], none)

/-- R122, R126: a commit's completion; while the ring is UNSYNCED the swap completes at once, when the handling of its
commit has ended (log 18). -/
def finishCommit (s : State) (r : Request) : State :=
  let res := commitResult s.store.shadowBank (r.param 0)
  let s1 := (s.setStore { s.store with pendingSwap := res.2 }).answer r res.1
  match res.2 with
  | some d => if s.ring.synced then s1 else s1.swapAtOnce d
  | none => s1

/-- R125: CANCEL_SWAP. -/
def handleCancelSwap (s : State) (_ : Request) : Handled :=
  if s.store.pendingSwap.isSome then (s.setStore { s.store with pendingSwap := none }).handled (Reply.plain .ok [])
  else s.handled (Reply.plain .notPending [])

/-- R129: the audit in flight completes. -/
def State.completeAudit (s : State) : State :=
  if s.store.auditInFlight then
    let fault := s.store.tableFault || s.bank.digest != s.store.recorded
    (s.setStore { s.store with auditInFlight := false, tableFault := fault }).offerChanges s [.tableFault]
  else s

/-- READ_TABLE. -/
def execReadTable (s : State) : Result := .next (s.serve .readTable handleReadTable)

/-- WRITE_TABLE. -/
def execWriteTable (s : State) : Result := .next (s.serve .writeTable handleWriteTable)

/-- CLONE. -/
def execClone (s : State) : Result := .next (s.serve .clone handleClone)

/-- CLONE_COMPLETION. -/
def execCloneCompletion (s : State) : Result := .next (s.complete .clone finishClone)

/-- COMMIT_SWAP. -/
def execCommitSwap (s : State) : Result := .next (s.serve .commitSwap handleCommitSwap)

/-- COMMIT_COMPLETION. -/
def execCommitCompletion (s : State) : Result := .next (s.complete .commit finishCommit)

/-- CANCEL_SWAP. -/
def execCancelSwap (s : State) : Result := .next (s.serve .cancelSwap handleCancelSwap)

/-- AUDIT_COMPLETION. -/
def execAuditCompletion (s : State) : Result := .next (s.whenRunning State.completeAudit)

end Sys2Proof.Machine
end

