-- ==== Sys2Proof/Machine/Resets.lean ====
section
/-! DEFINITION. The meanings of POWER_ON, HARD_RESET, RESET_HOLD_END, SELF_TEST and SOFT_RESET (R168 to R172). -/

namespace Sys2Proof.Machine

/-- R168: the part held in reset: every operation abandoned and every block at its reset state, TRIP and ATTN low, the
receivers without synchronisation (log 12). The station address stands until the straps are read. -/
def State.hold (s : State) (phase : RunPhase) : State :=
  { s with
    phase := phase
    linkMSynced := false
    intake := Intake.afterReset s.bank
    ring := Ring.afterReset
    tracker := Tracker.afterReset
    transform := Transform.afterReset s.bank
    composer := Composer.afterReset
    linkC := LinkC.afterReset s.bank s.pins.cblk false
    store := s.store.clearOperations
    supervision := Supervision.afterReset false
    engine := Engine.afterReset s.engine.address
    events := EventUnit.emptied
    health := Health.afterReset }

/-- R171: the RESET record at the end of a reset, cycle stamp 0 and no set count. -/
def State.recordReset (s : State) (kind : ResetKind) (result : SelfTestResult) : State :=
  s.offer [.record ⟨.reset kind result, 0, none⟩]

/-- R168: the end of a power-on or hard reset: the values taken from the active bank and the level of CBLK are taken as
the self-test left them, the RESET event is recorded and the part runs. -/
def State.endReset (s : State) (kind : ResetKind) (result : SelfTestResult) : State :=
  State.recordReset
    { s with
      phase := .running
      intake := Intake.afterReset s.bank
      transform := Transform.afterReset s.bank
      linkC := LinkC.afterReset s.bank s.pins.cblk false }
    kind result

/-- R153, R168: the hold ends; the straps are read and the self-test starts. -/
def State.startSelfTest (s : State) (phase : RunPhase) (straps : BitVec 6) : State :=
  { s with
    phase := phase
    pins := { s.pins with addr := straps }
    engine := { s.engine with address := straps } }

/-- The state with the RESET_N line at a level. -/
def State.setResetN (s : State) (high : Bool) : State := s.setPins { s.pins with resetN := high }

/-- R132, R95, R157: what a power-on or hard reset leaves of what it falls inside: of a WRITE_TABLE the entries handled by
then (log 31), of frames being sent the words that have left (log 13), each a free value at one choice. -/
def State.cutOff (s : State) : State :=
  ((s.cutWrite (Config.entriesHandled s.picks)).cutSending).setEvents s.events (s.picks + 1)

/-- R168: supply start. -/
def State.supplyStart (s : State) : State := s.cutOff.hold .heldPowerOn

/-- R168: RESET_N driven low; it starts a hard reset over, and before a power-on has ended its self-test it makes no
separate one. -/
def State.driveReset (s : State) : State :=
  match s.phase with
  | .heldPowerOn => s.setResetN false
  | .testingPowerOn => s.setResetN false
  | .awaitingLine => s.setResetN false
  | .running => (s.cutOff.setResetN false).hold .heldHard
  | .heldHard => (s.cutOff.setResetN false).hold .heldHard
  | .testingHard => (s.cutOff.setResetN false).hold .heldHard

/-- R168: the supply has reached its operating level: it ends the hold of a power-on. -/
def State.supplyReached (s : State) (straps : BitVec 6) : State :=
  match s.phase with
  | .heldPowerOn => s.startSelfTest .testingPowerOn straps
  | _ => s

/-- R168: RESET_N returns high: it ends the hold of a hard reset, and completes a power-on whose self-test ended with the
line low (log 11). -/
def State.resetReleased (s : State) (straps : BitVec 6) : State :=
  let s1 := s.setResetN true
  match s.phase with
  | .heldHard => s1.startSelfTest .testingHard straps
  | .awaitingLine => s1.endReset .powerOn .pass
  | _ => s1

/-- R168: what ends a hold. -/
def State.holdEnds (s : State) (cause : HoldEnd) (straps : BitVec 6) : State :=
  match cause with
  | .supplyReached => s.supplyReached straps
  | .resetLineHigh => s.resetReleased straps

/-- R170: the self-test of a power-on: both banks at factory contents; with RESET_N still low the part stays held. -/
def State.powerOnTest (s : State) : State :=
  let s1 := s.setStore TableStore.initialised
  if s.pins.resetN then s1.endReset .powerOn .pass else s1.setPhase .awaitingLine

/-- R170: the self-test of a hard reset: the active bank checked against the recorded digest. -/
def State.hardTest (s : State) : State :=
  if s.bank.digest = s.store.recorded then s.endReset .hard .pass
  else (s.setStore TableStore.initialised).endReset .hard .banksReinit

/-- R170: the self-test completes. -/
def State.endSelfTest (s : State) : State :=
  match s.phase with
  | .testingPowerOn => s.powerOnTest
  | .testingHard => s.hardTest
  | _ => s

/-- R169: every block at its soft reset state, what the rule keeps kept; arrivals that wait go on waiting (log 20). -/
def State.softBlocks (s : State) : State :=
  { s with
    intake := Intake.afterReset s.bank
    ring := { Ring.afterReset with waiting := s.ring.waiting }
    tracker := Tracker.afterReset
    transform := Transform.afterReset s.bank
    composer := Composer.afterReset
    linkC := LinkC.afterReset s.bank s.pins.cblk s.linkC.synced
    store := s.store.clearOperations
    supervision := Supervision.afterReset s.supervision.trip
    engine := { s.engine with overrun := 0 }
    health := s.health.softReset }

/-- R169: the soft reset, its RESET record, the response and the removal of the request. -/
def finishSoftReset (s : State) (r : Request) : State :=
  (s.softBlocks.recordReset .soft .pass).answer r (Reply.plain .ok [])

/-- POWER_ON. -/
def execPowerOn (s : State) : Result := .next s.supplyStart

/-- HARD_RESET. -/
def execHardReset (s : State) : Result := .next s.driveReset

/-- RESET_HOLD_END. -/
def execResetHoldEnd (cause : HoldEnd) (straps : BitVec 6) (s : State) : Result := .next (s.holdEnds cause straps)

/-- SELF_TEST. -/
def execSelfTest (s : State) : Result := .next s.endSelfTest

/-- SOFT_RESET. -/
def execSoftReset (s : State) : Result := .next (s.complete .softReset finishSoftReset)

end Sys2Proof.Machine
end

