-- ==== Sys2Proof/Machine/Samples.lean ====
section
/-! DEFINITION. The meanings of the frames and line events of the measurement and converter side: MALFORMED_FRAME,
SAMPLE_FRAME, CONVERTER_STATUS_FRAME, LINK_C_MALFORMED_FRAME, CBLK_EDGE, LOSS_OF_SIGNAL, SYNC_REGAINED. -/

namespace Sys2Proof.Machine

/-- R4, R105: loss of signal: a frame cut off is counted as malformed, and a LINK record made (log 7). -/
def State.loseSignal (s : State) (link : Link) (midFrame : Bool) : State :=
  let synced := match link with | .m => s.linkMSynced | .c => s.linkC.synced
  let s1 := if midFrame && synced then s.countMalformed else s
  let s2 : State := match link with
    | .m => { s1 with linkMSynced := false }
    | .c => s1.setLinkC { s1.linkC with synced := false }
  s2.record (.link link false)

/-- R4, R105: frame synchronisation gained by a receiver that had none (log 7). -/
def State.regainSync (s : State) (link : Link) : State :=
  match link with
  | .m => if s.linkMSynced then s else ({ s with linkMSynced := true } : State).record (.link .m true)
  | .c =>
    if s.linkC.synced then s else (s.setLinkC { s.linkC with synced := true }).record (.link .c true)

/-- R102, R108: an edge on CBLK; while the part is held or self-testing it changes the line alone, which is read when
the reset ends. -/
def State.edge (s : State) (high : Bool) : State :=
  (s.setPins { s.pins with cblk := high }).whenRunning fun s => s.takeEdge high

/-- LOSS_OF_SIGNAL. -/
def execLossOfSignal (link : Link) (midFrame : Bool) (s : State) : Result :=
  .next (s.whenRunning fun s => s.loseSignal link midFrame)

/-- SYNC_REGAINED. -/
def execSyncRegained (link : Link) (s : State) : Result := .next (s.whenRunning fun s => s.regainSync link)

/-- MALFORMED_FRAME. -/
def execMalformedFrame (frame : List Word) (s : State) : Result := .next (s.whenRunning fun s => s.receiveM frame)

/-- SAMPLE_FRAME. -/
def execSampleFrame (frame : List Word) (s : State) : Result := .next (s.whenRunning fun s => s.receiveM frame)

/-- CONVERTER_STATUS_FRAME. -/
def execConverterStatusFrame (frame : List Word) (s : State) : Result :=
  .next (s.whenRunning fun s => s.receiveC frame)

/-- LINK_C_MALFORMED_FRAME. -/
def execLinkCMalformedFrame (frame : List Word) (s : State) : Result :=
  .next (s.whenRunning fun s => s.receiveC frame)

/-- CBLK_EDGE. -/
def execCblkEdge (high : Bool) (s : State) : Result := .next (s.edge high)

end Sys2Proof.Machine
end

