-- ==== Sys2Proof/Machine/Asides.lean ====
section
/-! DEFINITION. What falls inside the handling of an arrival, between two things the blocks do with it: the service of a
request (R155), an input of R72, a level of the straps (R98), a reset that abandons it (R168). -/

namespace Sys2Proof.Machine

/-- The handling of a request that its code's command makes. -/
def handlerOf : RequestCode → State → Request → Handled
  | .echo => handleEcho
  | .readStatus => handleReadStatus
  | .readTable => handleReadTable
  | .writeTable => handleWriteTable
  | .clone => handleClone
  | .commitSwap => handleCommitSwap
  | .cancelSwap => handleCancelSwap
  | .readEvents => handleReadEvents
  | .readHealth => handleReadHealth
  | .setMonitor => handleSetMonitor
  | .wake => handleWake
  | .clearTrip => handleClearTrip
  | .inject => handleInject
  | .injectClear => handleInjectClear
  | .setThreshold => handleSetThreshold
  | .setAttentionMode => handleSetAttentionMode
  | .resetController => handleResetController
  | .setCode => handleSetCode
  | .clearCode => handleClearCode
  | .unlock => handleUnlock
  | .lock => handleLock
  | .freeze => handleFreeze

/-- R155, R158: the request at the head of the queue served, whatever its code; a RESET_CONTROLLER let through the gate
begins its service, and its soft reset waits for the end of the arrival (R169). -/
def State.serveHead (s : State) : State :=
  match s.engine.queue with
  | [] => s
  | r :: _ =>
    match RequestCode.ofWord r.code with
    | some c => s.serve c (handlerOf c)
    | none => s.serveUnknown

/-- What falls inside the handling of an arrival does what it does outside it. -/
def State.takeAside (s : State) (x : Aside) : State :=
  match x with
  | .serve => s.serveHead
  | .monStraps level => s.setPins { s.pins with mon := level }
  | .linkMFrame frame => s.whenRunning fun s => s.receiveM frame
  | .linkCFrame frame => s.whenRunning fun s => s.receiveC frame
  | .cblkEdge high => s.edge high
  | .lossOfSignal link midFrame => s.whenRunning fun s => s.loseSignal link midFrame
  | .syncRegained link => s.whenRunning fun s => s.regainSync link
  | .cloneCompletion => s.complete .clone finishClone
  | .commitCompletion => s.complete .commit finishCommit
  | .auditCompletion => s.whenRunning State.completeAudit
  | .attentionPulseEnd => s.whenRunning State.endPulse
  | .powerOn => s.supplyStart
  | .hardReset => s.driveReset

/-- A place in the handling of an arrival: what falls there is taken in order, then the handling goes on with `go`, unless
a reset among it has abandoned the handling (R168). -/
def State.pause (s : State) (asides : List Aside) (go : State → State) : State :=
  let t := asides.foldl State.takeAside s
  if t.phase = s.phase then go t else t

end Sys2Proof.Machine
end

