-- ==== Sys2Proof/Machine/Release.lean ====
section
/-! DEFINITION. The alignment ring: taking an arrival, the release check, the cascade, and a released set taken through
the blocks (R19 to R30, R35, R52); the meaning of ARRIVAL. -/

namespace Sys2Proof.Machine

/-- R19: the slots after the base has advanced by one. -/
def shiftSlots (v : Vector Slot 16) : Vector Slot 16 :=
  Vector.ofFn fun i => if h : i.val + 1 < 16 then v[i.val + 1] else Slot.empty

/-- R29, step 3: the base advanced by one, modulo M. -/
def Ring.advance (m : Nat) (r : Ring) : Ring := { r with base := (r.base + 1) % m, slots := shiftSlots r.slots }

/-- A slot with no arrival for any source. -/
def Slot.isEmpty (x : Slot) : Bool := sourceIndices.all fun k => (x[k]).isNone

/-- R24, step 1: the number of slots that are not empty. -/
def Ring.occupied (r : Ring) : Nat := r.slots.toList.countP fun x => !Slot.isEmpty x

/-- R26: whether a source is required. -/
def State.required (s : State) (k : Fin 8) : Bool :=
  (s.bank.source k).enabled
    && (s.intake.sources[k].state == .recovering || s.intake.sources[k].state == .active)

/-- R27: whether the set at the base is complete. -/
def State.baseComplete (s : State) : Bool :=
  !Slot.isEmpty s.ring.slots[0] && sourceIndices.all fun k => !s.required k || ((s.ring.slots[0])[k]).isSome

/-- R28: the lag condition, `d` being the distance of the arrival just stored while its set is unreleased. -/
def lagHolds (b : Bank) (d : Option Nat) : Bool :=
  match d with
  | some k => decide (b.count .releaseLag ≤ k)
  | none => false

/-- R35, step 2: the held active count, in COMPLETENESS, and the last released count. -/
def State.noteReleased (s : State) (set : ReleasedSet) : State :=
  (s.setRing { s.ring with lastReleased := some set.count }).countHealth completenessIndex
    (heldActive set s.intake.sources)

/-- R52: the cycle closed and the boundary raised; the arc figures are those the set that ended the cycle left (R64). -/
def State.endCycle (s : State) (closed : List Aside) : State :=
  s.closeCycle.pause closed fun t => t.takeBoundary t.transform.arcFigures

/-- R95, R103, R52: the reference frame of a set built and sent, the port's handling of the set ending with the frame's last
word; a reset at `framed` falls while it is being sent and cuts it off. The cycle is ended where the set `ends` one. -/
def State.sendSet (s : State) (x : SetAsides) (count : Nat) (out : Composed) (heldUsed ends : Bool) : State :=
  (s.sendC (s.referenceFrame count out heldUsed)).pause x.framed fun t =>
    (t.leaveC.countStale count).pause x.sent fun u => if ends then u.endCycle x.closed else u

/-- R35, step 3: the set through the tracker, the transform unit, the composer and the link C port. Tracker and windows
take it at one angle index (R41, R57). The tracker goes UNLOCKED for a VOLTAGE_LOST that began at this set here, so that its
record enters after intake's and supervision's of the set; the spec leaves that order open (R49, log 32). -/
def State.processSet (s : State) (x : SetAsides) (set : ReleasedSet) (heldUsed : Bool) : State :=
  let voltage := voltageValues s.bank s.intake.voltage set
  (s.track set.count voltage).pause x.tracked fun t =>
    let fed := fedValues t set
    (t.feedWindows s.tracker.index fed).pause x.fed fun u =>
      let out := u.composed s.tracker.index fed
      (u.compose set.count out).pause x.composed fun v =>
        v.sendSet x set.count out heldUsed (s.tracker.handle s.bank voltage).2

/-- R35: a released set handed on; the records of its stages enter in the stages' order (log 32). -/
def State.handOn (s : State) (x : SetAsides) (set : ReleasedSet) : State :=
  (s.intakeRelease set).pause x.updated fun t =>
    (t.noteReleased set).pause x.noted fun u => u.processSet x set (heldActive set t.intake.sources != 0)

/-- R29, steps 1 and 2: the set at the base formed and handed on. -/
def State.releaseSet (s : State) (x : SetAsides) : State :=
  let set := formSet s.bank s.ring
  (s.noteSet set).pause x.formed fun t => t.handOn x set

/-- R29: whether the check releases the set at the base. -/
def State.releaseCheck (s : State) (d : Option Nat) : Bool := s.ring.synced && (s.baseComplete || lagHolds s.bank d)

/-- The distance of the arrival just stored once the base has advanced; none once its set is released (R28). -/
def nearer (d : Option Nat) : Option Nat :=
  match d with
  | some (k + 1) => some k
  | _ => none

/-- R29, R30: the cascade, at most `fuel` sets; a swap that returned the ring to UNSYNCED ends it (log 21), as a reset
does. Each set released takes the next of `sets`. -/
def State.cascade (fuel : Nat) (sets : List SetAsides) (d : Option Nat) (s : State) : State :=
  match fuel with
  | 0 => s
  | fuel + 1 =>
    if s.releaseCheck d then
      let x := sets.headD {}
      let s1 := s.pause x.checked fun t => t.releaseSet x
      if s1.ring.synced then
        State.cascade fuel sets.tail (nearer d) (s1.setRing (s1.ring.advance s1.bank.modulus))
      else s1
    else s

/-- A ring whose slot at distance `d` holds a sample for a source. -/
def Ring.store (d : Fin 16) (k : Fin 8) (x : Sample) (r : Ring) : Ring :=
  { r with slots := r.slots.set d.val ((r.slots[d]).set k.val (some x)) }

/-- R20, R24: the ring started at an arrival's count, holding that arrival alone. -/
def Ring.startAt (a : Arrival) (r : Ring) : Ring :=
  Ring.store 0 a.source a.sample { r with synced := true, base := a.count, slots := emptySlots }

/-- R21: the distance of a count from the base, modulo M. -/
def Ring.distance (m : Nat) (r : Ring) (count : Nat) : Nat := (((count : Int) - (r.base : Int)) % (m : Int)).toNat

/-- R22: an arrival inside the window. -/
def State.arriveInside (s : State) (sets : List SetAsides) (a : Arrival) (d : Fin 16) : State :=
  if ((s.ring.slots[d])[a.source]).isSome then s.countDuplicate.countHealth streamOrderIndex 1
  else (s.setRing (s.ring.store d a.source a.sample)).cascade 16 sets (some d.val)

/-- R24, R25: an arrival ahead of the window. -/
def State.arriveAhead (s : State) (sets : List SetAsides) (a : Arrival) : State :=
  let s1 := ((s.setRing (s.ring.startAt a)).countResync).countHealth streamOrderIndex 8
  (s1.record (.resync a.source s.ring.occupied)).cascade 16 sets (some 0)

/-- R23: an arrival behind the base. -/
def State.arriveBehind (s : State) : State := s.countLate.countHealth streamOrderIndex 1

/-- R20, R21: the ring takes one arrival. -/
def State.takeArrival (s : State) (sets : List SetAsides) (a : Arrival) : State :=
  if s.ring.synced then
    let d := s.ring.distance s.bank.modulus a.count
    if h : d < 16 then s.arriveInside sets a ⟨d, h⟩
    else if d < s.bank.modulus / 2 then s.arriveAhead sets a
    else s.arriveBehind
  else (s.setRing (s.ring.startAt a)).cascade 16 sets (some 0)

/-- R21, R30: the oldest waiting arrival taken. -/
def State.takeNext (s : State) (sets : List SetAsides) : State :=
  match s.ring.waiting with
  | [] => s
  | a :: rest => (s.setRing { s.ring with waiting := rest }).takeArrival sets a

/-- ARRIVAL. -/
def execArrival (sets : List SetAsides) (s : State) : Result := .next (s.whenRunning fun s => s.takeNext sets)

end Sys2Proof.Machine
end

