-- ==== Sys2Proof/Machine/Dispatch.lean ====
section
/-! DEFINITION. One arm for each command. -/

namespace Sys2Proof.Machine

def exec (i : Instr) (s : State) : Host.Outcome State Fault Refusal :=
  match i with
  | .powerOn => Sys2Proof.Machine.execPowerOn s
  | .hardReset => Sys2Proof.Machine.execHardReset s
  | .resetHoldEnd cause straps => Sys2Proof.Machine.execResetHoldEnd cause straps s
  | .selfTest => Sys2Proof.Machine.execSelfTest s
  | .lossOfSignal link midFrame => Sys2Proof.Machine.execLossOfSignal link midFrame s
  | .syncRegained link => Sys2Proof.Machine.execSyncRegained link s
  | .malformedFrame frame => Sys2Proof.Machine.execMalformedFrame frame s
  | .sampleFrame frame => Sys2Proof.Machine.execSampleFrame frame s
  | .arrival sets => Sys2Proof.Machine.execArrival sets s
  | .converterStatusFrame frame => Sys2Proof.Machine.execConverterStatusFrame frame s
  | .linkCMalformedFrame frame => Sys2Proof.Machine.execLinkCMalformedFrame frame s
  | .cblkEdge high => Sys2Proof.Machine.execCblkEdge high s
  | .auditCompletion => Sys2Proof.Machine.execAuditCompletion s
  | .attentionPulseEnd => Sys2Proof.Machine.execAttentionPulseEnd s
  | .requestFrame frame => Sys2Proof.Machine.execRequestFrame frame s
  | .echo => Sys2Proof.Machine.execEcho s
  | .readStatus => Sys2Proof.Machine.execReadStatus s
  | .readTable => Sys2Proof.Machine.execReadTable s
  | .writeTable => Sys2Proof.Machine.execWriteTable s
  | .clone => Sys2Proof.Machine.execClone s
  | .cloneCompletion => Sys2Proof.Machine.execCloneCompletion s
  | .commitSwap => Sys2Proof.Machine.execCommitSwap s
  | .commitCompletion => Sys2Proof.Machine.execCommitCompletion s
  | .cancelSwap => Sys2Proof.Machine.execCancelSwap s
  | .readEvents => Sys2Proof.Machine.execReadEvents s
  | .readHealth => Sys2Proof.Machine.execReadHealth s
  | .setMonitor => Sys2Proof.Machine.execSetMonitor s
  | .wake => Sys2Proof.Machine.execWake s
  | .clearTrip => Sys2Proof.Machine.execClearTrip s
  | .inject => Sys2Proof.Machine.execInject s
  | .injectClear => Sys2Proof.Machine.execInjectClear s
  | .setThreshold => Sys2Proof.Machine.execSetThreshold s
  | .setAttentionMode => Sys2Proof.Machine.execSetAttentionMode s
  | .resetController => Sys2Proof.Machine.execResetController s
  | .softReset => Sys2Proof.Machine.execSoftReset s
  | .setCode => Sys2Proof.Machine.execSetCode s
  | .clearCode => Sys2Proof.Machine.execClearCode s
  | .unlock => Sys2Proof.Machine.execUnlock s
  | .lock => Sys2Proof.Machine.execLock s
  | .freeze => Sys2Proof.Machine.execFreeze s
  | .unknownRequest => Sys2Proof.Machine.execUnknownRequest s

end Sys2Proof.Machine
end

