-- ==== Sys2Proof/Machine/Senders.lean ====
section
/-! DEFINITION. The frames the outside world sends: what a merging unit, the station and the converter put on the links
(R190 to R194, layouts of spec/11). Every ignored bit is 0. -/

namespace Sys2Proof.Machine

/-- R194: the two words of a signed 24-bit value, bits 15..8 of the high word 0. -/
def words24 (x : Int) : List Word := [wordOf (x / 65536 % 256).toNat, signedWord x]

/-- R194: what a signed 24-bit value can be. -/
abbrev Within24 (x : Int) : Prop := -8388608 ≤ x ∧ x ≤ 8388607

/-- The sample frame a merging unit sends. -/
def SampleFields.frame (f : SampleFields) : List Word :=
  sealFrame 0x0A01
    ([f.ident, wordOf f.count, bitWord 0 (!f.valid) + bitWord 1 (!f.normal)]
      ++ words24 f.raw.a ++ words24 f.raw.b ++ words24 f.raw.c)

/-- The fields a merging unit can send. -/
abbrev SampleFields.Sendable (f : SampleFields) : Prop :=
  f.count < 65536 ∧ Within24 f.raw.a ∧ Within24 f.raw.b ∧ Within24 f.raw.c

/-- The request frame the station sends. -/
def Request.frame (r : Request) : List Word :=
  sealFrame 0x0A02 ([wordOf (r.address.toNat + r.tag.toNat * 256), r.code, r.selector, wordOf r.start] ++ r.params)

/-- The requests the station can send: as many parameter words as the request code takes (R190), in a frame whose length
word can name its length. -/
abbrev Request.Sendable (r : Request) : Prop :=
  r.start < 256 ∧ r.params.length + 7 < 65536 ∧ paramsLength r.code r.selector r.params.length = true

/-- The status frame the converter sends. -/
def ConverterStatus.frame (st : ConverterStatus) : List Word :=
  sealFrame 0x0C02 [wordOf st.capability, bitWord 0 st.thermal + bitWord 1 st.blocked, wordOf st.fault]

/-- The status the port keeps as sent. -/
abbrev ConverterStatus.Sendable (st : ConverterStatus) : Prop := st.capability ≤ 32767 ∧ st.fault ≤ 255

end Sys2Proof.Machine
end

