-- ==== Sys2Proof/Safety.lean ====
section
/-! DEFINITION. What holds of a safe run: the ranges the state tables of the chapters give, and the relations between
blocks that the rules promise; and the words the statements about requests are made of. -/

namespace Sys2Proof.Machine

/-! ### Ranges -/

/-- The range of a value in iu (R1, "Internal unit"). -/
abbrev InIu (x : Int) : Prop := -32767 ≤ x ∧ x ≤ 32767

/-- Three values in iu. -/
abbrev Phases.InIu (p : Phases) : Prop := Machine.InIu p.a ∧ Machine.InIu p.b ∧ Machine.InIu p.c

/-! ### Sample intake (R9, R10, R11, R13, R15) -/

/-- R9: every counter is within 0..65535. -/
abbrev Counters.InRange (c : Counters) : Prop :=
  c.malformed ≤ 65535 ∧ c.foreign ≤ 65535 ∧ c.duplicate ≤ 65535 ∧ c.late ≤ 65535 ∧ c.held ≤ 65535 ∧ c.resync ≤ 65535
    ∧ ∀ k : Fin 8, c.saturation[k] ≤ 65535

/-- The ranges of spec/01, "Source states": a RECOVERING source's run count has not reached 255, nor a RECOVERING or
ACTIVE source's hold count 15, since either would have changed the state (R11). -/
abbrev SourceStatus.InRange (x : SourceStatus) : Prop :=
  x.run ≤ 255 ∧ x.hold ≤ 15 ∧ (x.state = .recovering → x.run ≤ 254 ∧ x.hold ≤ 14) ∧ (x.state = .active → x.hold ≤ 14)

/-- Intake agrees with the active bank: a source is DISABLED exactly where its record is not enabled (R10, R17), the
voltage in use is the selection of R13 and FEEDER_SOURCE_LOST is the condition of R15. -/
abbrev State.IntakeInv (s : State) : Prop :=
  s.intake.counters.InRange ∧ (∀ k : Fin 8, s.intake.sources[k].InRange)
    ∧ (s.phase = .running → ∀ k : Fin 8, s.intake.sources[k].state = .disabled ↔ (s.bank.source k).enabled = false)
    ∧ (s.phase = .running → s.intake.voltage = selectVoltage s.bank s.intake.sources
        ∧ s.intake.feederLost = anyFeederLost s.bank s.intake.sources)

/-! ### Alignment ring (R18) -/

/-- A slot whose values are in range. -/
abbrev Slot.InIu (x : Slot) : Prop := ∀ k : Fin 8, ∀ y ∈ x[k], y.values.InIu

/-- R18: while UNSYNCED every slot is empty; while SYNCED the base is below M; every value is in range; no slot from
distance 8 on is occupied (R25); an arrival that waits has a count below M; a part not running holds none of this. -/
abbrev State.RingInv (s : State) : Prop :=
  (s.ring.synced = false → s.ring.slots = emptySlots)
    ∧ (s.ring.synced = true → s.ring.base < s.bank.modulus)
    ∧ (∀ i : Fin 16, Slot.InIu s.ring.slots[i])
    ∧ (∀ i : Fin 16, 8 ≤ i.val → s.ring.slots[i] = Slot.empty)
    ∧ (∀ k : Fin 8, (s.ring.lastValues[k]).InIu)
    ∧ (∀ n ∈ s.ring.lastReleased, n < 3840)
    ∧ (∀ a ∈ s.ring.waiting, a.count < s.bank.modulus ∧ a.sample.values.InIu)
    ∧ (s.phase ≠ .running → s.ring.synced = false ∧ s.ring.waiting = [])

/-- R29: between two arrivals the set at the base is not complete, or the release check would have released it. -/
abbrev State.RingAtRest (s : State) : Prop := s.phase = .running → s.ring.synced = true → s.baseComplete = false

/-! ### Angle tracker (R40) -/

/-- R40, R48, R49, R50: the ranges of the tracker's state between two sets. A cycle so far has advanced P by at least 832
for each of its sets; the lock run is kept while UNLOCKED, the unlock run while LOCKED; with no voltage in use, and in a
part that does not run (R55), the lock state is UNLOCKED. -/
abbrev State.TrackerInv (s : State) : Prop :=
  s.tracker.phase < 65536 ∧ -16384 ≤ s.tracker.integrator ∧ s.tracker.integrator ≤ 16384
    ∧ s.tracker.lockRun < 64 ∧ s.tracker.unlockRun < 16
    ∧ (s.tracker.locked = true → s.tracker.lockRun = 0) ∧ (s.tracker.locked = false → s.tracker.unlockRun = 0)
    ∧ s.tracker.sagRun ≤ 4 ∧ s.tracker.sagClearRun ≤ 4 ∧ InIu s.tracker.vd ∧ InIu s.tracker.vq
    ∧ 832 * s.tracker.cycleSets ≤ s.tracker.phase
    ∧ s.tracker.cycleSum.natAbs ≤ 32767 * s.tracker.cycleSets
    ∧ (∀ m ∈ s.tracker.lastMean, InIu m) ∧ (∀ d ∈ s.tracker.lastStep, d ≤ 32767) ∧ s.tracker.cycle < 65536
    ∧ (s.intake.voltage = .none → s.tracker.locked = false) ∧ (s.phase ≠ .running → s.tracker.locked = false)

/-! ### Cycle windows (R56) -/

/-- R56: a ring holds exactly `w` entries in range, and its running sum is the sum of its entries. -/
abbrev WindowRing.Ok (w : Nat) (r : WindowRing) : Prop :=
  r.entries.length = w ∧ (∀ x ∈ r.entries, InIu x) ∧ r.sum = r.entries.sum

/-- R56: a window of length `w`. -/
abbrev Window.Ok (w : Nat) (x : Window) : Prop :=
  x.idPos.Ok w ∧ x.iqPos.Ok w ∧ x.idNeg.Ok w ∧ x.iqNeg.Ok w ∧ x.fill ≤ w

/-- R56: every window has the length in force, which while the part runs is the length WINDOW of the active bank gives. -/
abbrev State.WindowInv (s : State) : Prop :=
  (s.transform.length = 32 ∨ s.transform.length = 64)
    ∧ (s.phase = .running → s.transform.length = s.bank.windowLength)
    ∧ ∀ n : Fin 6, (s.transform.windows[n]).Ok s.transform.length

/-! ### Composer and link C port (R71, R94) -/

/-- R71, R88, R89: the injection record. -/
abbrev Composer.Ok (c : Composer) : Prop :=
  c.injValues.InIu ∧ c.injRemaining ≤ 65535 ∧ (c.injActive = false → c.injRemaining = 0)
    ∧ (c.injActive = true → c.injCounted = true → 1 ≤ c.injRemaining)
    ∧ (c.injActive = true → c.injCounted = false → c.injRemaining = 0)

/-- R94, R103, R104: the port's ranges; CONVERTER_STALE stays on until a first status frame is taken. -/
abbrev LinkC.Ok (l : LinkC) : Prop :=
  l.capability ≤ 32767 ∧ l.faultCode ≤ 255 ∧ l.staleRun ≤ 1024 ∧ l.thermalRun ≤ 14
    ∧ (l.derate = false → l.thermalRun = 0) ∧ (l.status = none → l.stale = true)

/-- The composer's and the port's invariant; while the part runs the port has seen the level of CBLK (R102, R107); between
two commands no reference frame is being sent (R95). -/
abbrev State.OutputInv (s : State) : Prop :=
  s.composer.Ok ∧ s.linkC.Ok ∧ (s.phase = .running → s.linkC.blockLine = s.pins.cblk) ∧ s.linkCOut.handed = []

/-! ### Supervision, health and the audit counter (R109, R134, R182) -/

/-- R182, R185: the ranges of the health block; the worst value is never above the latest. -/
abbrev Health.Ok (h : Health) : Prop :=
  (∀ a : Fin 5, h.raw[a] ≤ 65535 ∧ 1 ≤ h.worst[a] ∧ h.worst[a] ≤ h.value[a] ∧ h.value[a] ≤ 253 ∧ h.threshold[a] ≤ 253)
    ∧ h.interval < 5000

/-- The ranges of the per-cycle counts. -/
abbrev State.CycleCountsInv (s : State) : Prop :=
  s.health.Ok ∧ s.supervision.quietTimer ≤ 65535 ∧ (∀ n : Fin 4, s.supervision.termRuns[n] ≤ 255)
    ∧ s.store.auditCounter ≤ 4096

/-! ### Management engine (R152, R154, R163, R165) -/

/-- The request code whose service an operation is. -/
def Operation.code : Operation → RequestCode
  | .clone => .clone
  | .commit => .commitSwap
  | .softReset => .resetController

/-- R152, R154, R160 to R165, R124: the engine's ranges; what each protection state says of the code, the attempts and the
pending swap; an operation in service is that of the request at the head, began while the part was OPEN or UNLOCKED, and
leaves no swap pending; while the ring is UNSYNCED no swap waits (R126); a part not running is OPEN with an empty queue
(R168, R172). -/
abbrev State.EngineInv (s : State) : Prop :=
  s.engine.queue.length ≤ 4 ∧ s.engine.overrun ≤ 65535 ∧ s.engine.attempts ≤ 5
    ∧ (s.engine.attempts ≠ 0 → s.engine.protection = .locked ∨ s.engine.protection = .frozen)
    ∧ (s.engine.protection = .opened → s.engine.code = none)
    ∧ (s.engine.protection = .unlocked ∨ s.engine.protection = .locked → s.engine.code.isSome)
    ∧ (s.engine.protection = .frozen → s.store.pendingSwap = none)
    ∧ (∀ op ∈ s.engine.operation,
        (s.engine.protection = .opened ∨ s.engine.protection = .unlocked)
          ∧ (∃ r ∈ s.engine.queue.head?, RequestCode.ofWord r.code = some op.code)
          ∧ (op ≠ .softReset → s.store.pendingSwap = none))
    ∧ (s.phase = .running → s.ring.synced = false → s.store.pendingSwap = none)
    ∧ (s.phase ≠ .running → s.engine.protection = .opened ∧ s.engine.queue = [] ∧ s.engine.operation = none
        ∧ s.store.pendingSwap = none)

/-! ### Event unit (R173, R175, R178, R179) -/

/-- R175, R178, R179: at most 16 records; in LATCHED mode the line is asserted exactly while the queue holds a record and
no pulse runs; in PULSED mode it is asserted exactly while a pulse runs. -/
abbrev State.EventInv (s : State) : Prop :=
  s.events.queue.length ≤ 16
    ∧ (s.engine.attention = .latched → s.events.line = !s.events.queue.isEmpty ∧ s.events.pulse = none)
    ∧ (s.engine.attention = .pulsed → s.events.line = s.events.pulse.isSome)

/-! ### Requests and their answers -/

/-- A request of code `c` stands at the head of the queue, `rest` behind it; the part runs and no operation is in
service, so that the next service command is this request's (R155). -/
structure AtHead (s : State) (c : RequestCode) (r : Request) (rest : List Request) : Prop where
  running : s.phase = .running
  free : s.engine.operation = none
  queue : s.engine.queue = r :: rest
  code : RequestCode.ofWord r.code = some c

/-- An operation is in service for the request at the head of the queue (R121, R122, R169). -/
structure InService (s : State) (op : Operation) (r : Request) (rest : List Request) : Prop where
  running : s.phase = .running
  operation : s.engine.operation = some op
  queue : s.engine.queue = r :: rest

/-- R155, R156, R157: what ends a service: the response of an addressed request is handed to the
transmitter, none for a broadcast; the request
leaves the queue, `rest` remains and no operation is in service. Nothing else changes. -/
def State.ended (s : State) (r : Request) (rest : List Request) (p : Reply) : State :=
  { s with
    engine := { s.engine with queue := rest, operation := none }
    linkMOut :=
      if r.address = 63 then s.linkMOut
      else { s.linkMOut with handed := s.linkMOut.handed ++ [s.responseFrame r p] } }

/-- The service command of a request code. -/
def RequestCode.command : RequestCode → Instr
  | .echo => .echo
  | .readStatus => .readStatus
  | .readTable => .readTable
  | .writeTable => .writeTable
  | .clone => .clone
  | .commitSwap => .commitSwap
  | .cancelSwap => .cancelSwap
  | .readEvents => .readEvents
  | .readHealth => .readHealth
  | .setMonitor => .setMonitor
  | .wake => .wake
  | .clearTrip => .clearTrip
  | .inject => .inject
  | .injectClear => .injectClear
  | .setThreshold => .setThreshold
  | .setAttentionMode => .setAttentionMode
  | .resetController => .resetController
  | .setCode => .setCode
  | .clearCode => .clearCode
  | .unlock => .unlock
  | .lock => .lock
  | .freeze => .freeze

/-- A request that leaves the queue without effect and without a response (R156). -/
def State.dropped (s : State) (rest : List Request) : State :=
  { s with engine := { s.engine with queue := rest, operation := none } }

/-- One record offered to the event unit with the stamps of R174, the cycle number and the last released count. -/
def State.recorded (s : State) (body : EventBody) : State :=
  { s with events := s.events.take s.engine.attention ⟨body, s.tracker.cycle, s.ring.lastReleased⟩ }

/-- R176: what the event unit makes of a condition's change from `was` to `is`, by the REPORT entry of its code in the
active bank, with the stamps of R174. -/
def State.noteChange (s : State) (c : Condition) (was is : Bool) : State :=
  if was = is then s
  else
    match s.bank.routing c with
    | .silent => s
    | .event => s.recorded (.condition c is)
    | .onset => if is then s.recorded (.condition c true) else s

/-- The change of a condition as its owner offers it with a cycle stamp and a set count; nothing where it does not
change. -/
def changed (c : Condition) (was is : Bool) (cycle : Nat) (set : Option Nat) : List Offer :=
  if was = is then [] else [.change c is cycle set]

/-- Whether an offer is a record of a kind of its own, no condition's change. -/
def Offer.isRecord : Offer → Bool
  | .record _ => true
  | .change _ _ _ _ => false

/-- R138: the ARC record of feeder `n` whose qualification the step of supervision from `s` to `v` completes, where its
profile reports arcs. -/
def State.arcRecord (s : State) (v : Supervision) (n : Fin 6) : List Offer :=
  if (s.supervision.arcs[n] = .pendingOn ∧ v.arcs[n] = .burning
      ∨ s.supervision.arcs[n] = .pendingOff ∧ v.arcs[n] = .dark) ∧ (s.bank.profile n).reportArcs = true then
    [.record ⟨.arc n v.arcs[n], s.tracker.cycle, s.ring.lastReleased⟩]
  else []

/-! ### Frames the ports discard (R2, R100) -/

/-- R2: the conditions under which the link M port discards a frame. The required length of a request is 7 words and its
parameter words (R190). -/
def DiscardedOnLinkM (ws : List Word) : Prop :=
  (frameWord ws 1).toNat ≠ ws.length
    ∨ (frameWord ws 0 ≠ 0x0A01 ∧ frameWord ws 0 ≠ 0x0A02)
    ∨ (frameWord ws 0 = 0x0A01 ∧ ws.length ≠ 12)
    ∨ (frameWord ws 0 = 0x0A02 ∧ ws.length < 7)
    ∨ (frameWord ws 0 = 0x0A02 ∧ RequestCode.ofWord (frameWord ws 3) = some .writeTable
        ∧ ∀ n, 1 ≤ n → n ≤ 32 →
            ws.length ≠ 7 + n * ((TableId.ofWord (frameWord ws 4)).map TableId.entryWords).getD 1)
    ∨ (∃ c, frameWord ws 0 = 0x0A02 ∧ RequestCode.ofWord (frameWord ws 3) = some c ∧ c ≠ .writeTable
        ∧ ws.length ≠ 7 + c.paramWords)
    ∨ frameWord ws (ws.length - 1) ≠ checkWord ws.dropLast

/-- R100: the conditions under which the link C port discards a frame. -/
def DiscardedOnLinkC (ws : List Word) : Prop :=
  (frameWord ws 1).toNat ≠ ws.length ∨ frameWord ws 0 ≠ 0x0C02 ∨ ws.length ≠ 6
    ∨ frameWord ws (ws.length - 1) ≠ checkWord ws.dropLast

/-! ### What falls inside an arrival (R155) -/

/-- The command that does by itself what an aside does inside an arrival; none for a level of the straps, and for a service
with an empty queue. -/
def State.commandOf (s : State) : Aside → Option Instr
  | .serve => s.engine.queue.head?.map fun r => ((RequestCode.ofWord r.code).map RequestCode.command).getD .unknownRequest
  | .monStraps _ => none
  | .linkMFrame frame => some (.requestFrame frame)
  | .linkCFrame frame => some (.converterStatusFrame frame)
  | .cblkEdge high => some (.cblkEdge high)
  | .lossOfSignal link midFrame => some (.lossOfSignal link midFrame)
  | .syncRegained link => some (.syncRegained link)
  | .cloneCompletion => some .cloneCompletion
  | .commitCompletion => some .commitCompletion
  | .auditCompletion => some .auditCompletion
  | .attentionPulseEnd => some .attentionPulseEnd
  | .powerOn => some .powerOn
  | .hardReset => some .hardReset

/-- The asides of sample processing, the converter side and the part's own timing. -/
def processingAside : Aside → Bool
  | .serve => false
  | .cloneCompletion => false
  | .commitCompletion => false
  | .powerOn => false
  | .hardReset => false
  | _ => true

/-- The commands of sample processing, the converter side and the part's own timing: those no request takes part in, an
arrival with only such things inside it among them. -/
def processing : Instr → Bool
  | .lossOfSignal _ _ => true
  | .syncRegained _ => true
  | .malformedFrame _ => true
  | .sampleFrame _ => true
  | .arrival sets => (sets.flatMap SetAsides.all).all processingAside
  | .converterStatusFrame _ => true
  | .linkCMalformedFrame _ => true
  | .cblkEdge _ => true
  | .auditCompletion => true
  | .attentionPulseEnd => true
  | _ => false

/-- The state with the malformed counter raised by one (R9). -/
def State.malformedCounted (s : State) : State :=
  { s with
    intake :=
      { s.intake with
        counters := { s.intake.counters with malformed := min 65535 (s.intake.counters.malformed + 1) } } }

/-- The state with the STREAM ORDER raw count raised by `n` (R183). -/
def State.orderCounted (s : State) (n : Nat) : State :=
  { s with health := { s.health with raw := s.health.raw.set 3 (min 65535 (s.health.raw[3] + n)) } }

/-- The state with its oldest waiting arrival taken off (R21). -/
def State.tookFirst (s : State) (rest : List Arrival) : State := { s with ring := { s.ring with waiting := rest } }

/-- A state whose shadow bank is `b`, everything else as it is (R116). -/
def State.withShadow (s : State) (b : Bank) : State := { s with store := s.store.setShadow b }

end Sys2Proof.Machine
end

