-- ==== Sys2Proof/Certificates/Slice0/Obligations.lean ====
section
/-! DEFINITION. The statements for the provers. A statement marked "log n" rests in part on the model's own choice, named
in notes/assumptions/n.md. -/

open Sys2Proof Sys2Proof.Machine

/-! ### The queue of commands and every command -/

/-- The model's own form (log 4): a step runs the command at the front of the queue on the state with the queue's rest;
on an empty queue the block idles. -/
def Obligations.StepTakesTheFrontCommand : Prop :=
  (∀ (c : Instr) (rest : List Instr) (s : State),
      step { s with pending := c :: rest } = exec c { s with pending := rest })
    ∧ ∀ s : State, s.pending = [] → step s = .next s

/-- Every command answers a next state; it leaves the queue of waiting commands alone and takes nothing back that has been
sent. R155, R157: on link M it hands frames over behind those handed over before, unless a reset ends with it: then what has
left of all of them stays sent and the rest is not (log 13). -/
def Obligations.EveryCommandAnswersAState : Prop :=
  ∀ (c : Instr) (s : State), ∃ t : State, exec c s = .next t ∧ t.pending = s.pending
    ∧ (∃ fs, t.linkCOut.sent = s.linkCOut.sent ++ fs)
    ∧ ∃ fs, t.linkMOut = { s.linkMOut with handed := s.linkMOut.handed ++ fs }
        ∨ t.phase ≠ .running
          ∧ ∃ n, t.linkMOut = ⟨[], s.linkMOut.sent ++ cutFrames n (s.linkMOut.handed ++ fs)⟩

/-! ### Resets (R168 to R172) -/

/-- A power-on from any state with RESET_N high: the supply reached and the self-test ended, the part stands as
`State.reset` with the straps and lines as they are; meanwhile TRIP and ATTN are low and the queues empty. Of frames being
sent the words that have left stay sent (R95, R157); how many is free (log 13). That the injection values are 0 after a reset
is R93's table against R89 (log 34). -/
def Obligations.PowerOnLeadsToTheResetState : Prop :=
  ∀ (s : State) (straps : BitVec 6), s.pins.resetN = true →
    ∃ s1 s2 : State, exec .powerOn s = .next s1
      ∧ s1.phase = .heldPowerOn ∧ s1.supervision.trip = false ∧ s1.events = EventUnit.emptied ∧ s1.engine.queue = []
      ∧ s1.linkMSynced = false ∧ s1.linkC.synced = false ∧ s1.ring.waiting = []
      ∧ exec (.resetHoldEnd .supplyReached straps) s1 = .next s2
      ∧ s2.phase = .testingPowerOn ∧ s2.engine.address = straps
      ∧ exec .selfTest s2 =
          .next
            { State.reset with
              pending := s.pending
              pins := { s.pins with addr := straps }
              linkC := LinkC.afterReset Bank.factory s.pins.cblk false
              engine := Engine.afterReset straps
              linkMOut :=
                ⟨[], s.linkMOut.sent ++ cutFrames (Config.responseWordsSent s.picks) s.linkMOut.handed⟩
              linkCOut :=
                ⟨[], s.linkCOut.sent ++ cutFrames (Config.referenceWordsSent s.picks) s.linkCOut.handed⟩
              picks := s.picks + 1 }

/-- A hard reset of a running part: the banks, the active number and the recorded digest are kept where the active bank's
digest is the recorded one; else both banks are at factory contents and the result is BANKS_REINIT. R132: of a WRITE_TABLE
the reset falls inside, the entries already handled, whose number is a free value (log 31), stay as written and the rest are
not; the second part says so of `cutWrite` for every number, and that it leaves the state alone where no write is in
service. R168: RESET_N driven low again while a hard reset is held or self-testing starts it over, to the same end (log 12:
the blocks stand at their reset values meanwhile; log 34: their injection values are R93's). R95, R157: of the frames being
sent on either link the words that have left, whose number is a free value (log 13), stay sent and the rest is not: the
third part says of a cut that it keeps the first words, as the frames that lie whole within them and a part of the next. -/
def Obligations.HardResetChecksTheActiveBank : Prop :=
  (∀ (s : State) (straps : BitVec 6), s.phase = .running ∨ s.phase = .heldHard ∨ s.phase = .testingHard →
    let mOut : Transmitter := ⟨[], s.linkMOut.sent ++ cutFrames (Config.responseWordsSent s.picks) s.linkMOut.handed⟩
    let cOut : Transmitter := ⟨[], s.linkCOut.sent ++ cutFrames (Config.referenceWordsSent s.picks) s.linkCOut.handed⟩
    ∃ s1 s2 : State, exec .hardReset s = .next s1
      ∧ s1.phase = .heldHard ∧ s1.supervision.trip = false ∧ s1.events = EventUnit.emptied ∧ s1.engine.queue = []
      ∧ s1.linkMOut = mOut ∧ s1.linkCOut = cOut
      ∧ exec (.resetHoldEnd .resetLineHigh straps) s1 = .next s2 ∧ s2.phase = .testingHard
      ∧ exec .selfTest s2 =
          .next
            (if s.bank.digest = s.store.recorded then
              { State.reset with
                pending := s.pending
                pins := { s.pins with resetN := true, addr := straps }
                intake := Intake.afterReset s.bank
                transform := Transform.afterReset s.bank
                linkC := LinkC.afterReset s.bank s.pins.cblk false
                store := (s.cutWrite (Config.entriesHandled s.picks)).store.clearOperations
                engine := Engine.afterReset straps
                events := ⟨[⟨.reset .hard .pass, 0, none⟩], false, true, none⟩
                linkMOut := mOut
                linkCOut := cOut
                picks := s.picks + 1 }
            else
              { State.reset with
                pending := s.pending
                pins := { s.pins with resetN := true, addr := straps }
                linkC := LinkC.afterReset Bank.factory s.pins.cblk false
                engine := Engine.afterReset straps
                events := ⟨[⟨.reset .hard .banksReinit, 0, none⟩], false, true, none⟩
                linkMOut := mOut
                linkCOut := cOut
                picks := s.picks + 1 }))
    ∧ (∀ (s : State) (written : Nat),
        (∀ r rest t, AtHead s .writeTable r rest → s.engine.protection = .opened ∨ s.engine.protection = .unlocked →
            s.store.pendingSwap = none → TableId.ofWord r.selector = some t →
            let list := (splitEntries t.entryWords r.params).take written
            s.cutWrite written =
              { s with store := s.store.setShadow (writeEntries t r.start s.store.shadowBank list).bank })
          ∧ ((∀ r rest, AtHead s .writeTable r rest → s.engine.protection = .locked ∨ s.engine.protection = .frozen
                ∨ s.store.pendingSwap.isSome = true ∨ TableId.ofWord r.selector = none) →
              s.cutWrite written = s)
          ∧ s.cutWrite 0 = s)
    ∧ ∀ (n : Nat) (fs : List (List Word)),
        (cutFrames n fs).flatten = fs.flatten.take n
          ∧ ∃ m, cutFrames n fs = fs.take m
              ∨ ∃ f k, fs[m]? = some f ∧ 0 < k ∧ k < f.length ∧ cutFrames n fs = fs.take m ++ [f.take k]

/-- RESET_CONTROLLER let through the gate asks for a soft reset; at the soft reset every block takes its soft reset state,
the RESET record is offered, then the response is built and the request removed (R169). Arrivals that wait go on waiting
(log 20); the injection values become 0 by R93 against R89 (log 34). -/
def Obligations.SoftResetKeepsWhatItNames : Prop :=
  ∀ (s : State) (r : Request) (rest : List Request),
    (AtHead s .resetController r rest → s.engine.protection = .opened ∨ s.engine.protection = .unlocked →
        exec .resetController s =
          .next
            (if r.address = 63 then s.dropped rest
            else { s with engine := { s.engine with operation := some .softReset } }))
      ∧ (InService s .softReset r rest →
          exec .softReset s =
            .next
              (State.ended
                { s with
                  intake := Intake.afterReset s.bank
                  ring := { Ring.afterReset with waiting := s.ring.waiting }
                  tracker := Tracker.afterReset
                  transform := Transform.afterReset s.bank
                  composer := Composer.afterReset
                  linkC := LinkC.afterReset s.bank s.pins.cblk s.linkC.synced
                  store :=
                    { s.store with pendingSwap := none, auditInFlight := false, auditCounter := 0, tableFault := false }
                  supervision := Supervision.afterReset s.supervision.trip
                  engine := { s.engine with overrun := 0 }
                  events := s.events.take s.engine.attention ⟨.reset .soft .pass, 0, none⟩
                  health :=
                    { s.health with raw := Vector.replicate 5 0, interval := 0, blockedSeen := false, low := false } }
                r rest ⟨.ok, 0, 0, []⟩))

/-- R168: a part held in reset or self-testing takes no frame, request, arrival or completion; only the supply, RESET_N,
the self-test's end and the level of CBLK reach it. RESET_N low before a power-on has ended its self-test makes no
separate hard reset: the part completes the power-on once the line is high (log 11). -/
def Obligations.HeldPartTakesNothing : Prop :=
  (∀ (c : Instr) (s : State), s.phase ≠ .running → c ≠ .powerOn → c ≠ .hardReset →
      (∀ cause straps, c ≠ .resetHoldEnd cause straps) → c ≠ .selfTest → (∀ high, c ≠ .cblkEdge high) →
        exec c s = .next s)
    ∧ ∀ (s : State) (straps : BitVec 6),
        (s.phase = .heldPowerOn ∨ s.phase = .testingPowerOn ∨ s.phase = .awaitingLine →
            exec .hardReset s = .next { s with pins := { s.pins with resetN := false } })
          ∧ (s.phase = .testingPowerOn → s.pins.resetN = false →
              exec .selfTest s = .next { s with store := TableStore.initialised, phase := .awaitingLine })
          ∧ (s.phase = .awaitingLine →
              exec (.resetHoldEnd .resetLineHigh straps) s =
                .next
                  { s with
                    phase := .running
                    pins := { s.pins with resetN := true }
                    intake := Intake.afterReset s.bank
                    transform := Transform.afterReset s.bank
                    linkC := LinkC.afterReset s.bank s.pins.cblk false
                    events := s.events.take s.engine.attention ⟨.reset .powerOn .pass, 0, none⟩ })

/-! ### Link events and discarded frames (R2, R4, R100, R105) -/

/-- R4, R105: a loss of signal ends the receiver's synchronisation, counts the frame it cuts off as malformed and records
one LINK event; gaining synchronisation records one (log 7: a loss without a frame counts nothing). -/
def Obligations.LinkEventsAreRecorded : Prop :=
  ∀ (s : State) (mid : Bool), s.phase = .running →
    exec (.lossOfSignal .m mid) s =
        .next
          (State.recorded { (if mid && s.linkMSynced then s.malformedCounted else s) with linkMSynced := false }
            (.link .m false))
      ∧ exec (.lossOfSignal .c mid) s =
          .next
            (State.recorded
              { (if mid && s.linkC.synced then s.malformedCounted else s) with linkC := { s.linkC with synced := false } }
              (.link .c false))
      ∧ (s.linkMSynced = false →
          exec (.syncRegained .m) s = .next (State.recorded { s with linkMSynced := true } (.link .m true)))
      ∧ (s.linkC.synced = false →
          exec (.syncRegained .c) s =
            .next (State.recorded { s with linkC := { s.linkC with synced := true } } (.link .c true)))

/-- R2, R100: a frame that meets one of the conditions is discarded, counted once and leaves no other trace, whichever
frame command of its link names it (log 5); a frame that meets none passes; a frame on link C cut off by loss of signal
is counted as malformed. -/
def Obligations.PortsDiscardFailingFrames : Prop :=
  (∀ (s : State) (ws : List Word),
      (s.phase = .running → s.linkMSynced = true → DiscardedOnLinkM ws →
          exec (.malformedFrame ws) s = .next s.malformedCounted ∧ exec (.sampleFrame ws) s = .next s.malformedCounted
            ∧ exec (.requestFrame ws) s = .next s.malformedCounted)
        ∧ (¬ DiscardedOnLinkM ws → judgeLinkM ws ≠ .malformed))
    ∧ ∀ (s : State) (ws : List Word),
        (s.phase = .running → s.linkC.synced = true →
            (DiscardedOnLinkC ws →
                exec (.linkCMalformedFrame ws) s = .next s.malformedCounted
                  ∧ exec (.converterStatusFrame ws) s = .next s.malformedCounted)
              ∧ ∃ t, exec (.lossOfSignal .c true) s = .next t ∧ t.intake = s.malformedCounted.intake)
          ∧ (¬ DiscardedOnLinkC ws → (judgeLinkC ws).isSome)

/-- R190 to R194: what a merging unit, the station and the converter send is what the ports read. A frame is read from the
named bits of its words alone, whatever the ignored bits and the sign-extension bits hold. R192: the check word's register
starts at 0xFFFF and takes each word bit by bit, bit 15 first. -/
def Obligations.PortsReadTheFramesSent : Prop :=
  (∀ f : SampleFields, f.Sendable → judgeLinkM f.frame = .sample f)
    ∧ (∀ r : Request, r.Sendable → judgeLinkM r.frame = .request r)
    ∧ (∀ st : ConverterStatus, st.Sendable → judgeLinkC st.frame = some st)
    ∧ (∀ ident count quality ah al bh bl ch cl : Word,
        let raw (h l : Word) : Int :=
          let v := h.toNat % 256 * 65536 + l.toNat
          if v < 8388608 then v else (v : Int) - 16777216
        judgeLinkM (sealFrame 0x0A01 [ident, count, quality, ah, al, bh, bl, ch, cl]) =
          .sample ⟨ident, count.toNat, !bitAt 0 quality, !bitAt 1 quality, ⟨raw ah al, raw bh bl, raw ch cl⟩⟩)
    ∧ (∀ (w2 code selector w5 : Word) (params : List Word), params.length + 7 < 65536 →
        paramsLength code selector params.length = true →
        judgeLinkM (sealFrame 0x0A02 ([w2, code, selector, w5] ++ params)) =
          .request
            { address := w2.setWidth 6
              tag := (w2 >>> 8).setWidth 8
              code := code
              selector := selector
              start := w5.toNat % 256
              params := params })
    ∧ (∀ w2 w3 w4 : Word,
        judgeLinkC (sealFrame 0x0C02 [w2, w3, w4]) =
          some ⟨min 32767 w2.toNat, bitAt 0 w3, bitAt 1 w3, w4.toNat % 256⟩)
    ∧ checkWord [] = 0xFFFF
    ∧ ∀ (ws : List Word) (w : Word), ∃ register : Nat → Word,
        register 0 = checkWord ws ∧ register 16 = checkWord (ws ++ [w])
          ∧ ∀ n, n < 16 →
              register (n + 1) =
                if bitAt 15 (register n) ≠ bitAt (15 - n) w then (register n <<< 1) ^^^ 0x1021 else register n <<< 1

/-! ### Numbers (R1) -/

/-- R1: saturation, the rounded shift, truncating division and the magnitude estimate; a rounded shift is a nearest
integer. -/
def Obligations.NumericConventions : Prop :=
  (∀ x, saturate x = max (-32767) (min 32767 x))
    ∧ (∀ x, roundedShift 0 x = x)
    ∧ (∀ k x, 1 ≤ k → roundedShift k x = x.sign * (((x.natAbs + 2 ^ (k - 1)) / 2 ^ k : Nat) : Int)
        ∧ 2 * (2 ^ k * roundedShift k x - x).natAbs ≤ 2 ^ k)
    ∧ (∀ x y, truncDiv x y = x.sign * y.sign * ((x.natAbs / y.natAbs : Nat) : Int))
    ∧ ∀ x y, magnitude x y = max x.natAbs y.natAbs + min x.natAbs y.natAbs / 2

/-! ### Sample intake (R5 to R15) -/

/-- R5, R7: a sample frame whose count is M or more is malformed; one whose identifier no enabled record holds is foreign;
any other becomes one arrival of that record's source, each value scaled and saturated, each saturation counted. -/
def Obligations.SampleFrameBecomesAnArrival : Prop :=
  ∀ (s : State) (f : SampleFields), s.phase = .running → s.linkMSynced = true → f.Sendable →
    let m := if s.bank.param .nominalFrequency = 0 then 3200 else 3840
    (m ≤ f.count → exec (.sampleFrame f.frame) s = .next s.malformedCounted)
      ∧ (f.count < m →
          (∀ k : Fin 8, (s.bank.source k).enabled = true → (s.bank.source k).ident ≠ f.ident) →
          exec (.sampleFrame f.frame) s =
            .next
              { s with
                intake :=
                  { s.intake with
                    counters := { s.intake.counters with foreign := min 65535 (s.intake.counters.foreign + 1) } } })
      ∧ ∀ k : Fin 8, f.count < m → (s.bank.source k).enabled = true → (s.bank.source k).ident = f.ident →
          let exact (x : Int) : Int := roundedShift (s.bank.source k).shift (x * (s.bank.source k).gain)
          let changed (x : Int) : Nat := if saturate (exact x) = exact x then 0 else 1
          exec (.sampleFrame f.frame) s =
            .next
              { s with
                intake :=
                  { s.intake with
                    counters :=
                      { s.intake.counters with
                        saturation :=
                          s.intake.counters.saturation.set k
                            (min 65535
                              (s.intake.counters.saturation[k] + (changed f.raw.a + changed f.raw.b + changed f.raw.c))) } }
                ring :=
                  { s.ring with
                    waiting :=
                      s.ring.waiting
                        ++ [⟨k, f.count,
                          ⟨⟨saturate (exact f.raw.a), saturate (exact f.raw.b), saturate (exact f.raw.c)⟩,
                            f.valid && (f.normal || (s.bank.source k).acceptTest)⟩⟩] } }

/-- R11: the state, run count and hold count of each source that takes part in a released set. -/
def Obligations.SourceStateTable : Prop :=
  ∀ (s : State) (set : ReleasedSet) (k : Fin 8) (x : SetSource), set.sources[k] = some x →
    let before := s.intake.sources[k]
    let after := (s.intakeRelease set).intake.sources[k]
    let limit := (s.bank.source k).holdLimit
    (before.state = .recovering → x.present = true → s.bank.count .recoverSets ≤ before.run + 1 →
        after = ⟨.active, before.run + 1, 0⟩)
      ∧ (before.state = .recovering → x.present = true → before.run + 1 < s.bank.count .recoverSets →
          after = ⟨.recovering, before.run + 1, before.hold⟩)
      ∧ (before.state = .active → x.present = true → after = ⟨.active, before.run, 0⟩)
      ∧ (before.state = .lost → x.present = true → after = ⟨.recovering, 1, 0⟩)
      ∧ (before.state = .recovering → x.present = false →
          after = ⟨if limit ≤ before.hold + 1 then .lost else .recovering, 0, before.hold + 1⟩)
      ∧ (before.state = .active → x.present = false →
          after = ⟨if limit ≤ before.hold + 1 then .lost else .active, before.run, before.hold + 1⟩)
      ∧ (before.state = .lost → x.present = false → after = before)

/-- R13, R15: after intake's update the voltage in use is MAIN where the enabled VOLTAGE_MAIN source is ACTIVE, else
STANDBY where the VOLTAGE_STANDBY source is, else none; FEEDER_SOURCE_LOST holds where an enabled FEEDER source is LOST.
R12, R66, R139: a FEEDER source that enters LOST clears its feeder's window and makes the feeder DARK; the other feeders'
windows and arc states stay as they are. Intake offers a SOURCE record for each changed state, then its condition changes;
supervision offers at the same moment an ARC record for each feeder forced out of BURNING or PENDING_OFF that reports arcs;
all with the set's count (log 1; within a block in source index order, log 15). -/
def Obligations.IntakeUpdateAtARelease : Prop :=
  (∀ (s : State) (set : ReleasedSet),
      let t := s.intakeRelease set
      let active (role : Role) : Prop :=
        ∃ k : Fin 8, (s.bank.source k).enabled = true ∧ (s.bank.source k).role = role ∧ t.intake.sources[k].state = .active
      (active .voltageMain → t.intake.voltage = .main)
        ∧ (¬ active .voltageMain → active .voltageStandby → t.intake.voltage = .standby)
        ∧ (¬ active .voltageMain → ¬ active .voltageStandby → t.intake.voltage = .none)
        ∧ (t.intake.feederLost = true ↔
            ∃ k : Fin 8, (s.bank.source k).enabled = true ∧ (s.bank.source k).role = .feeder
              ∧ t.intake.sources[k].state = .lost))
    ∧ (∀ (s : State) (set : ReleasedSet) (n : Fin 6),
        let t := s.intakeRelease set
        let loses : Prop :=
          ∃ k : Fin 8, (s.bank.source k).enabled = true ∧ (s.bank.source k).role = .feeder ∧ (s.bank.source k).feeder = n
            ∧ s.intake.sources[k].state ≠ .lost ∧ t.intake.sources[k].state = .lost
        (loses → t.transform.windows[n] = Window.cleared s.transform.length ∧ t.supervision.arcs[n] = .dark)
          ∧ (¬ loses → t.transform.windows[n] = s.transform.windows[n] ∧ t.supervision.arcs[n] = s.supervision.arcs[n]))
    ∧ ∀ (s : State) (set : ReleasedSet),
        let t := s.intakeRelease set
        let cycle := s.tracker.cycle
        let count := some set.count
        let source (k : Fin 8) : List Offer :=
          if s.intake.sources[k].state = t.intake.sources[k].state then []
          else [.record ⟨.source k t.intake.sources[k].state, cycle, count⟩]
        let arc (k : Fin 8) : List Offer :=
          let n := (s.bank.source k).feeder
          if (s.bank.source k).enabled = true ∧ (s.bank.source k).role = .feeder ∧ s.intake.sources[k].state ≠ .lost
              ∧ t.intake.sources[k].state = .lost ∧ (s.supervision.arcs[n] = .burning ∨ s.supervision.arcs[n] = .pendingOff)
              ∧ (s.bank.profile n).reportArcs = true then
            [.record ⟨.arc n .dark, cycle, count⟩]
          else []
        let change (c : Condition) : List Offer := changed c (s.cond c) (t.cond c) cycle count
        t.intake.counters = s.intake.counters ∧ t.transform.length = s.transform.length
          ∧ t =
            State.deliver
              { s with
                intake := t.intake
                transform := t.transform
                supervision := { s.supervision with arcs := t.supervision.arcs } }
              [sourceIndices.flatMap source ++ change .voltageLost ++ change .standbyInUse ++ change .feederSourceLost,
                sourceIndices.flatMap arc]

/-- What intake owns agrees with the active bank in every state a step reaches from one where it does. -/
def Obligations.IntakeAgreesWithTheBank : Prop := ∀ s t : State, s.IntakeInv → step s = .next t → t.IntakeInv

/-! ### Alignment ring (R18 to R33) -/

/-- R20 to R25: an arrival behind the base is late and one whose place is taken is a duplicate; both are discarded and
counted, also for the health block (R183), and nothing else changes. An arrival at an UNSYNCED ring starts it; one inside
the window is stored in its empty place; one ahead of the window resyncs the ring, is counted and recorded; the release
check, with its cascade, follows each time (log 9; `sets` is what falls inside the sets it releases, log 10). -/
def Obligations.ArrivalIsClassified : Prop :=
  (∀ (s : State) (sets : List SetAsides) (a : Arrival) (rest : List Arrival), s.phase = .running → s.ring.synced = true →
      s.ring.waiting = a :: rest →
      let d : Int := ((a.count : Int) - s.ring.base) % s.bank.modulus
      ((s.bank.modulus / 2 : Nat) ≤ d →
          exec (.arrival sets) s =
            .next
              (State.orderCounted
                { s.tookFirst rest with
                  intake :=
                    { s.intake with
                      counters := { s.intake.counters with late := min 65535 (s.intake.counters.late + 1) } } }
                1))
        ∧ ∀ n : Fin 16, d = n.val → ((s.ring.slots[n])[a.source]).isSome = true →
            exec (.arrival sets) s =
              .next
                (State.orderCounted
                  { s.tookFirst rest with
                    intake :=
                      { s.intake with
                        counters := { s.intake.counters with duplicate := min 65535 (s.intake.counters.duplicate + 1) } } }
                  1))
    ∧ ∀ (s : State) (sets : List SetAsides) (a : Arrival) (rest : List Arrival), s.phase = .running →
        s.ring.waiting = a :: rest →
        let s0 := s.tookFirst rest
        let started : Ring :=
          { s0.ring with
            synced := true
            base := a.count
            slots := emptySlots.set 0 (Slot.empty.set a.source (some a.sample)) }
        let d : Int := ((a.count : Int) - s.ring.base) % s.bank.modulus
        (s.ring.synced = false →
            exec (.arrival sets) s = .next (State.cascade 16 sets (some 0) { s0 with ring := started }))
          ∧ (∀ n : Fin 16, s.ring.synced = true → d = n.val → (s.ring.slots[n])[a.source] = none →
              exec (.arrival sets) s =
                .next
                  (State.cascade 16 sets (some n.val)
                    { s0 with
                      ring :=
                        { s0.ring with
                          slots := s.ring.slots.set n ((s.ring.slots[n]).set a.source (some a.sample)) } }))
          ∧ (s.ring.synced = true → 16 ≤ d → d < (s.bank.modulus / 2 : Nat) →
              exec (.arrival sets) s =
                .next
                  (State.cascade 16 sets (some 0)
                    (State.recorded
                      (State.orderCounted
                        { s0 with
                          ring := started
                          intake :=
                            { s.intake with
                              counters := { s.intake.counters with resync := min 65535 (s.intake.counters.resync + 1) } } }
                        8)
                      (.resync a.source (s.ring.slots.toList.countP fun x => decide (x ≠ Slot.empty))))))

/-- R26 to R29: the release check and one step of its cascade. The set at the base is complete where it holds an arrival
and one for every enabled source that is RECOVERING or ACTIVE; the lag condition holds where the arrival just stored,
not yet released, lies RELEASE_LAG or more beyond the base. The base advances unless the released set's own swap has returned
the ring to UNSYNCED, which ends the cascade (log 21, read from R30 and R37), as a reset does. R155, R72, R98, R168: at each
place of a set's handling what falls there is taken in order, each as its own command takes it (log 10, log 33), and then the
handling goes on unless a reset has abandoned it. -/
def Obligations.ReleaseCheckAndCascade : Prop :=
  (∀ (s : State) (n : Nat) (sets : List SetAsides) (d : Option Nat), s.ring.synced = true →
      let complete : Prop :=
        (∃ k : Fin 8, ((s.ring.slots[0])[k]).isSome = true)
          ∧ ∀ k : Fin 8, (s.bank.source k).enabled = true →
              s.intake.sources[k].state = .recovering ∨ s.intake.sources[k].state = .active →
              ((s.ring.slots[0])[k]).isSome = true
      let lag : Prop := ∃ k, d = some k ∧ s.bank.count .releaseLag ≤ k
      (complete ∨ lag →
          let x := sets.headD {}
          let t :=
            s.pause x.checked fun u =>
              (u.noteSet (formSet u.bank u.ring)).pause x.formed fun v => v.handOn x (formSet u.bank u.ring)
          s.cascade (n + 1) sets d =
            if t.ring.synced then
              State.cascade n sets.tail (d.bind fun k => if k = 0 then none else some (k - 1))
                { t with
                  ring :=
                    { t.ring with
                      base := (t.ring.base + 1) % t.bank.modulus
                      slots := Vector.ofFn fun i => if h : i.val + 1 < 16 then t.ring.slots[i.val + 1] else Slot.empty } }
            else t)
        ∧ (¬ complete → ¬ lag → s.cascade (n + 1) sets d = s))
    ∧ (∀ (s : State) (go : State → State), s.pause [] go = go s
        ∧ ∀ (x : Aside) (xs : List Aside),
            s.pause (x :: xs) go =
              let t := xs.foldl State.takeAside (s.takeAside x)
              if t.phase = s.phase then go t else t)
    ∧ ∀ s : State, s.phase = .running →
        (∀ (x : Aside) (c : Instr), s.commandOf x = some c → exec c s = .next (s.takeAside x))
          ∧ (s.engine.queue = [] → s.takeAside .serve = s)
          ∧ (∀ level, s.takeAside (.monStraps level) = { s with pins := { s.pins with mon := level } })
          ∧ (s.takeAside .powerOn).phase ≠ .running ∧ (s.takeAside .hardReset).phase ≠ .running

/-- R31 to R33: the released set holds, for each enabled record, the values of its usable arrival, or its last released
values where it is held; the held counter rises by the sources held, and each enabled source's last released values
become its values in the set. -/
def Obligations.ReleasedSetIsFormed : Prop :=
  ∀ (s : State) (k : Fin 8),
    let set := formSet s.bank s.ring
    let t := s.noteSet set
    let held (j : Fin 8) : Bool :=
      (s.bank.source j).enabled && !(((s.ring.slots[0])[j]).any fun x => x.usable)
    set.count = s.ring.base
      ∧ ((s.bank.source k).enabled = false → set.sources[k] = none ∧ t.ring.lastValues[k] = s.ring.lastValues[k])
      ∧ (∀ x, (s.bank.source k).enabled = true → (s.ring.slots[0])[k] = some x → x.usable = true →
          set.sources[k] = some ⟨true, x.values⟩ ∧ t.ring.lastValues[k] = x.values)
      ∧ (held k = true →
          set.sources[k] = some ⟨false, s.ring.lastValues[k]⟩ ∧ t.ring.lastValues[k] = s.ring.lastValues[k])
      ∧ t.intake.counters.held = min 65535 (s.intake.counters.held + sourceIndices.countP held)

/-- The ring's form in every state a step reaches from one that has it: while UNSYNCED it is empty, no slot from distance
8 on is occupied between two arrivals (R25), and the set at the base is never left complete (R29). -/
def Obligations.RingKeepsItsForm : Prop :=
  ∀ s t : State, s.RingInv → step s = .next t → t.RingInv ∧ (s.RingAtRest → t.RingAtRest)

/-! ### Angle tracker (R42 to R53) -/

/-- R42 to R48, R50, R51, with the runs of R49: one released set with a voltage in use, and one with none. -/
def Obligations.TrackerHandlesAReleasedSet : Prop :=
  (∀ (b : Bank) (t : Tracker) (v : Phases),
      let i := t.phase / 256
      let sn := b.sine (i % 256)
      let cs := b.sine ((i + 64) % 256)
      let x := saturate (roundedShift 15 ((2 * v.a - v.b - v.c) * 10923))
      let y := saturate (roundedShift 15 ((v.b - v.c) * 18919))
      let vd := saturate (roundedShift 13 (x * cs + y * sn))
      let vq := saturate (roundedShift 13 (-x * sn + y * cs))
      let u := (t.handle b (some v)).1
      let step := 1024 + roundedShift 8 u.integrator + max (-128) (min 128 (roundedShift 10 (vq * b.param .pllKp)))
      u.vd = vd ∧ u.vq = vq
        ∧ (vd < b.param .sagLevel → u.sagRun = min 4 (t.sagRun + 1) ∧ u.sagClearRun = 0)
        ∧ (b.param .sagLevel ≤ vd → u.sagRun = 0 ∧ u.sagClearRun = min 4 (t.sagClearRun + 1))
        ∧ (u.sag = true ↔ if t.sag = true then u.sagClearRun ≠ 4 else u.sagRun = 4)
        ∧ (u.sag = false →
            u.integrator = max (-16384) (min 16384 (t.integrator + roundedShift 6 (vq * b.param .pllKi))))
        ∧ (u.sag = true → u.integrator = t.integrator)
        ∧ (-16384 ≤ t.integrator → t.integrator ≤ 16384 → 832 ≤ step ∧ step ≤ 1216)
        ∧ (u.phase : Int) = (t.phase + step) % 65536
        ∧ ((t.handle b (some v)).2 = true ↔ 65536 ≤ (t.phase : Int) + step)
        ∧ (vq.natAbs ≤ b.param .lockBand →
            if t.locked = true then u.locked = true ∧ u.lockRun = t.lockRun ∧ u.unlockRun = 0
            else if t.lockRun + 1 < 64 then u.locked = false ∧ u.lockRun = t.lockRun + 1 ∧ u.unlockRun = t.unlockRun
            else u.locked = true ∧ u.lockRun = 0 ∧ u.unlockRun = 0)
        ∧ (b.param .lockBand < vq.natAbs →
            if t.locked = false then u.locked = false ∧ u.lockRun = 0 ∧ u.unlockRun = t.unlockRun
            else if t.unlockRun + 1 < 16 then u.locked = true ∧ u.lockRun = t.lockRun ∧ u.unlockRun = t.unlockRun + 1
            else u.locked = false ∧ u.lockRun = 0 ∧ u.unlockRun = 0)
        ∧ u.cycleSets = t.cycleSets + 1 ∧ u.cycleSum = t.cycleSum + vd ∧ u.cycleVoltage = t.cycleVoltage
        ∧ u.lastMean = t.lastMean ∧ u.lastStep = t.lastStep ∧ u.overvoltage = t.overvoltage ∧ u.cycle = t.cycle)
    ∧ ∀ (b : Bank) (t : Tracker),
        let step := 1024 + roundedShift 8 t.integrator
        t.handle b none =
          ({ t with
              vd := 0
              vq := 0
              locked := false
              lockRun := 0
              unlockRun := 0
              phase := ((t.phase + step) % 65536).toNat
              cycleSets := t.cycleSets + 1
              cycleVoltage := false },
            decide (65536 ≤ (t.phase : Int) + step))

/-- R52, R53: the closing of a cycle: the cycle number, the mean and the fluctuation step or their absence, OVERVOLTAGE
with its hysteresis, the restart, and the change of OVERVOLTAGE as the REPORT table routes it. -/
def Obligations.CycleCloses : Prop :=
  ∀ s : State,
    let t := s.tracker
    let u := s.closeCycle.tracker
    let mean := t.cycleSum.tdiv t.cycleSets
    s.closeCycle = State.noteChange { s with tracker := u } .overvoltage t.overvoltage u.overvoltage
      ∧ u.cycle = (t.cycle + 1) % 65536
      ∧ (t.cycleVoltage = true →
          u.lastMean = some mean ∧ (t.lastMean = none → u.lastStep = none)
            ∧ (∀ m, t.lastMean = some m → u.lastStep = some (min 32767 (mean - m).natAbs))
            ∧ (t.overvoltage = false → (u.overvoltage = true ↔ s.bank.param .ovLevel < mean))
            ∧ (t.overvoltage = true → (u.overvoltage = true ↔ s.bank.param .ovLevel - 164 ≤ mean)))
      ∧ (t.cycleVoltage = false → u.lastMean = none ∧ u.lastStep = none ∧ u.overvoltage = t.overvoltage)
      ∧ u = { t with
              cycle := u.cycle, lastMean := u.lastMean, lastStep := u.lastStep, overvoltage := u.overvoltage
              cycleSum := 0, cycleSets := 0, cycleVoltage := true }

/-- The ranges of the tracker (UNLOCKED with no voltage in use), of the composer and the link C port, which is sending no
reference frame between two commands (R95), of the health block
and of supervision's and the store's counts, in every state a step reaches from one that has them. -/
def Obligations.TrackerAndCountsKeepTheirRanges : Prop :=
  (∀ s t : State, s.TrackerInv → step s = .next t → t.TrackerInv)
    ∧ ∀ s t : State, step s = .next t → (s.OutputInv → t.OutputInv) ∧ (s.CycleCountsInv → t.CycleCountsInv)

/-! ### Cycle windows (R56 to R65) -/

/-- R56: every window sum is the sum of its ring's entries and no fill count exceeds the length in force, which is the
length WINDOW of the active bank gives. -/
def Obligations.WindowSumsAreTheirEntries : Prop := ∀ s t : State, s.WindowInv → step s = .next t → t.WindowInv

/-- R58, R59, R61, R62: a fed feeder's four components each replace the oldest entry of their ring and its average is the
sum's rounded shift; a feeder that is not fed keeps its window (R69). -/
def Obligations.FedFeederEntersItsWindow : Prop :=
  ∀ (s : State) (i : Nat) (values : Vector (Option Phases) 6) (n : Fin 6),
    let w := s.transform.windows[n]
    let u := (s.feedWindows i values).transform
    let sn := s.bank.sine i
    let cs := s.bank.cosine i
    let fed (old new : WindowRing) (x : Int) : Prop :=
      new.entries = old.entries.drop 1 ++ [saturate (roundedShift 13 x)]
        ∧ new.sum = old.sum - (old.entries.head?).getD 0 + saturate (roundedShift 13 x)
    (values[n] = none → u.windows[n] = w)
      ∧ (∀ v, values[n] = some v →
          let x := saturate (roundedShift 15 ((2 * v.a - v.b - v.c) * 10923))
          let y := saturate (roundedShift 15 ((v.b - v.c) * 18919))
          fed w.idPos (u.windows[n]).idPos (x * cs + y * sn) ∧ fed w.iqPos (u.windows[n]).iqPos (-x * sn + y * cs)
            ∧ fed w.idNeg (u.windows[n]).idNeg (x * cs - y * sn) ∧ fed w.iqNeg (u.windows[n]).iqNeg (x * sn + y * cs)
            ∧ (u.windows[n]).fill = (if w.fill < s.transform.length then w.fill + 1 else w.fill))
      ∧ (s.transform.length = 32 ∨ s.transform.length = 64 →
          let k := if s.transform.length = 32 then 5 else 6
          u.averages n =
            ⟨roundedShift k (u.windows[n]).idPos.sum, roundedShift k (u.windows[n]).iqPos.sum,
              roundedShift k (u.windows[n]).idNeg.sum, roundedShift k (u.windows[n]).iqNeg.sum⟩)

/-! ### Reference composer and link C (R75 to R104) -/

/-- R75 to R78: the effective limit, the upper limit, the clamped reactive demand and the rationed negative-sequence
demand; the reactive demand stays within the limit and the estimate of the pair within what it leaves. -/
def Obligations.DemandStaysWithinTheLimit : Prop :=
  ∀ (b : Bank) (ov der : Bool) (c : Nat) (q nd nq : Int), c ≤ 32767 → InIu nd → InIu nq →
    let d := limitDemand b ov der c q nd nq
    let r := d.imax - d.qc.natAbs
    let mn := magnitude nd nq
    (der = false → d.imax = min (b.param .rating) c)
      ∧ (der = true → d.imax = min (c : Int) (roundedShift 8 (b.param .rating * b.param .derate)))
      ∧ 0 ≤ d.imax ∧ d.imax ≤ 32767
      ∧ (ov = true → b.param .ovLimit = 1 → d.upper = min d.imax (b.param .ovCap))
      ∧ (ov = false ∨ b.param .ovLimit ≠ 1 → d.upper = d.imax)
      ∧ (d.capInForce = true ↔ ov = true ∧ b.param .ovLimit = 1 ∧ b.param .ovCap < d.imax)
      ∧ d.qc = max (-d.imax) (min d.upper q) ∧ (d.qClamped = true ↔ d.qc ≠ q)
      ∧ (d.qc.natAbs : Int) ≤ d.imax
      ∧ ((mn : Int) ≤ r → d.ndr = nd ∧ d.nqr = nq ∧ d.nScaled = false)
      ∧ (r < mn → d.ndr = (nd * r).tdiv mn ∧ d.nqr = (nq * r).tdiv mn ∧ d.nScaled = true)
      ∧ (magnitude d.ndr d.nqr : Int) ≤ r

/-- R35: a released set handed on, block by block, with what falls between two of them (R155, log 10): intake's update (R10
to R15); the last released count and the held active count in COMPLETENESS (R34, R183); the tracker, with the changes of SAG
and UNLOCKED (log 32); the windows; the composer's snapshot, with one countdown (R89), the seen flags of a COMPUTED set
(R86) and blocked seen (R183); one frame built and sent (R95), during which a reset cuts it off (log 13, O4); after its last
word the stale run (R103); a set that ends a cycle then ends it (R48, R52). The
tracker handles the values of the voltage in use (R13, R31); a feeder is fed where its source is ACTIVE and its mode not OFF
(R14, R57). At the snapshot the demand is formed from the sums of R73 and R74, the source is the first of R82 whose condition
holds, the phase values are those of R79 to R84. The frame holds the six flags (R96) and the monitor quantity of R97 and
R98, the trip line and the selection as they stand at its building. -/
def Obligations.ReleasedSetSendsOneReferenceFrame : Prop :=
  (∀ (s : State) (x : SetAsides) (set : ReleasedSet),
      let count := some set.count
      let held (t : State) : Nat :=
        sourceIndices.countP fun k =>
          (set.sources[k]).any (fun y => !y.present) && decide (t.intake.sources[k].state = .active)
      s.handOn x set =
        (s.intakeRelease set).pause x.updated fun t =>
          let noted : State :=
            { t with
              ring := { t.ring with lastReleased := count }
              health := { t.health with raw := t.health.raw.set 1 (min 65535 (t.health.raw[1] + held t)) } }
          noted.pause x.noted fun u =>
            let handled := u.tracker.handle u.bank (voltageValues u.bank u.intake.voltage set)
            let i := u.tracker.phase / 256
            let tracked : State := { u with tracker := handled.1 }
            (tracked.offer
              (changed .sag u.tracker.sag handled.1.sag u.tracker.cycle count
                ++ changed .unlocked (!u.tracker.locked) (!handled.1.locked) u.tracker.cycle count)).pause x.tracked
              fun v =>
                let fed := fedValues v set
                (v.feedWindows i fed).pause x.fed fun w =>
                  let out := w.composed i fed
                  let counts : Bool := w.composer.injActive && w.composer.injCounted
                  let active := if counts then decide (2 ≤ w.composer.injRemaining) else w.composer.injActive
                  let snapped : State :=
                    { w with
                      composer :=
                        { w.composer with
                          injActive := active
                          injRemaining := if counts then w.composer.injRemaining - 1 else w.composer.injRemaining
                          lastSource := some out.source
                          qSeen := w.composer.qSeen || decide (out.source = .computed ∧ out.demand.qClamped = true)
                          nSeen := w.composer.nSeen || decide (out.source = .computed ∧ out.demand.nScaled = true) }
                      health :=
                        { w.health with blockedSeen := w.health.blockedSeen || decide (out.source = .blocked) } }
                  (snapped.offer (changed .injecting w.composer.injActive active w.tracker.cycle count)).pause x.composed
                    fun y =>
                      let frame := y.referenceFrame set.count out (decide (held t ≠ 0))
                      let sending : State :=
                        { y with linkCOut := { y.linkCOut with handed := y.linkCOut.handed ++ [frame] } }
                      sending.pause x.framed fun z =>
                        let run := min 1024 (z.linkC.staleRun + 1)
                        let stale := z.linkC.stale || decide (z.bank.count .staleSets ≤ run)
                        let ran : State :=
                          { z with
                            linkC := { z.linkC with staleRun := run, stale := stale }
                            linkCOut := ⟨[], z.linkCOut.sent ++ z.linkCOut.handed⟩ }
                        (ran.offer (changed .converterStale z.linkC.stale stale z.tracker.cycle count)).pause x.sent
                          fun e => if handled.2 = true then e.endCycle x.closed else e)
    ∧ (∀ (b : Bank) (v : VoltageInUse) (set : ReleasedSet), (v = .none → voltageValues b v set = none)
        ∧ ∀ k : Fin 8, (b.source k).enabled = true →
            (v = .main → (b.source k).role = .voltageMain → voltageValues b v set = (set.sources[k]).map SetSource.values)
              ∧ (v = .standby → (b.source k).role = .voltageStandby →
                  voltageValues b v set = (set.sources[k]).map SetSource.values))
    ∧ (∀ (s : State) (set : ReleasedSet) (n : Fin 6),
        let b := s.bank
        (∀ k : Fin 8, (b.source k).enabled = true → (b.source k).role = .feeder → (b.source k).feeder = n →
            (fedValues s set)[n] =
              if s.intake.sources[k].state = .active ∧ (b.profile n).mode ≠ .off then
                (set.sources[k]).map SetSource.values
              else none)
          ∧ ((∀ k : Fin 8,
              ¬ ((b.source k).enabled = true ∧ (b.source k).role = .feeder ∧ (b.source k).feeder = n)) →
              (fedValues s set)[n] = none))
    ∧ (∀ (s : State) (i : Nat) (fed : Vector (Option Phases) 6),
        let b := s.bank
        let out := s.composed i fed
        let p := out.phases
        let fedAs (modes : List Mode) (n : Fin 6) : Bool := (fed[n]).isSome && modes.contains (b.profile n).mode
        let share (n : Fin 6) (y : Int) : Int := roundedShift 8 ((b.profile n).weight * -y)
        let q :=
          b.param .bias + ∑ n : Fin 6, if fedAs [.reactive, .full] n then share n (s.transform.averages n).iqPos else 0
        let nd := saturate (∑ n : Fin 6, if fedAs [.full] n then share n (s.transform.averages n).idNeg else 0)
        let nq := saturate (∑ n : Fin 6, if fedAs [.full] n then share n (s.transform.averages n).iqNeg else 0)
        let d := limitDemand b s.tracker.overvoltage s.linkC.derate s.linkC.capability q nd nq
        let sn := b.sine ((i + b.count .lead) % 256)
        let cs := b.sine ((i + b.count .lead + 64) % 256)
        let refs (qx nx ny : Int) : Phases :=
          let a := saturate (roundedShift 13 (-qx * sn + nx * cs + ny * sn))
          let c := saturate (roundedShift 13 (qx * cs - nx * sn + ny * cs))
          ⟨a, saturate (roundedShift 15 (-16384 * a + 28378 * c)), saturate (roundedShift 15 (-16384 * a - 28378 * c))⟩
        out.demand = d ∧ d.qClamped = decide (d.qc ≠ q) ∧ d.derated = s.linkC.derate
          ∧ out.source =
            (if s.composer.injActive then .inject
            else if s.linkC.blockLine || s.linkC.blockedFlag || s.linkC.stale then .blocked
            else if s.intake.voltage = .none ∨ s.tracker.locked = false ∨ s.store.tableFault = true then .hold
            else if s.supervision.quiet then .quiet
            else .computed)
          ∧ (s.composer.injValues.InIu → p.InIu) ∧ (out.source = .inject → p = s.composer.injValues)
          ∧ (out.source = .blocked ∨ out.source = .hold → p = Phases.zero)
          ∧ (out.source = .quiet → p = refs (max (-d.imax) (min d.upper (b.param .bias))) 0 0)
          ∧ (out.source = .computed → p = refs d.qc d.ndr d.nqr))
    ∧ ∀ (s : State) (count : Nat) (out : Composed) (held : Bool), ∃ (w sel : Word) (m : Nat),
        let d := out.demand
        let quantities : List Int :=
          [0, s.tracker.vd, s.tracker.vq, s.tracker.integrator, d.qc, d.ndr, d.nqr, d.imax]
            ++ (feederNumbers.map fun n => (s.transform.averages n).iqPos)
            ++ [s.tracker.lastMean.getD 0, (s.tracker.lastStep.getD 0 : Nat)]
        s.referenceFrame count out held =
            sealFrame 0x0C01
              [wordOf count, w, signedWord out.phases.a, signedWord out.phases.b, signedWord out.phases.c, sel,
                signedWord (quantities.getD m 0)]
          ∧ bitField 0 8 w = [RefSource.inject, .blocked, .hold, .quiet, .computed].idxOf out.source + 1
          ∧ bitAt 8 w = d.qClamped ∧ bitAt 9 w = d.nScaled ∧ bitAt 10 w = d.capInForce ∧ bitAt 11 w = d.derated
          ∧ bitAt 12 w = s.supervision.trip ∧ bitAt 13 w = held ∧ bitField 14 2 w = 0
          ∧ (s.engine.monitor = .strap → m = s.pins.mon.toNat ∧ sel = wordOf (m + 256))
          ∧ ∀ y, s.engine.monitor = .quantity y → m = y.val ∧ sel = wordOf m

/-- R101, R102, R104: a status frame taken, its words read from their named bits, and what its changes of the three
conditions become, in the order CONVERTER_STALE, CONVERTER_BLOCKED, THERMAL_DERATE; that BLOCKED's enters before DERATE's is
the model's choice (log 15). An edge of CBLK; a part in reset keeps the line's level alone (R108). R103: after a reference frame the
stale run is one more, up to 1024; CONVERTER_STALE turns on at STALE_SETS and no count turns it off. -/
def Obligations.LinkCPortRules : Prop :=
  (∀ s : State,
      (∀ w1 w2 w3 : Word, s.phase = .running → s.linkC.synced = true →
          let l := s.linkC
          let st : ConverterStatus := ⟨min 32767 w1.toNat, bitAt 0 w2, bitAt 1 w2, bitField 0 8 w3⟩
          let clears : Prop := st.thermal = false ∧ l.derate = true ∧ s.bank.count .thermalClear ≤ l.thermalRun + 1
          let derate : Bool := st.thermal || (l.derate && !decide (s.bank.count .thermalClear ≤ l.thermalRun + 1))
          let run : Nat := if st.thermal = false ∧ l.derate = true ∧ ¬ clears then l.thermalRun + 1 else 0
          (l.derate = false → l.thermalRun = 0) →
          exec (.converterStatusFrame (sealFrame 0x0C02 [w1, w2, w3])) s =
            .next
              (((State.noteChange
                { s with
                  linkC :=
                    { l with
                      status := some st, staleRun := 0, stale := false, derate := derate, thermalRun := run } }
                .converterStale l.stale false).noteChange
                  .converterBlocked (l.blockLine || l.blockedFlag) (l.blockLine || st.blocked)).noteChange
                    .thermalDerate l.derate derate))
        ∧ ∀ high : Bool,
            (s.phase = .running →
                exec (.cblkEdge high) s =
                  .next
                    (State.noteChange
                      { s with pins := { s.pins with cblk := high }, linkC := { s.linkC with blockLine := high } }
                      .converterBlocked (s.linkC.blockLine || s.linkC.blockedFlag) (high || s.linkC.blockedFlag)))
              ∧ (s.phase ≠ .running → exec (.cblkEdge high) s = .next { s with pins := { s.pins with cblk := high } }))
    ∧ ∀ (s : State) (count : Nat), s.ring.lastReleased = some count →
        let run := min 1024 (s.linkC.staleRun + 1)
        let stale := s.linkC.stale || decide (s.bank.count .staleSets ≤ run)
        s.countStale count =
          State.noteChange { s with linkC := { s.linkC with staleRun := run, stale := stale } }
            .converterStale s.linkC.stale stale

/-! ### Table banks (R115 to R130) -/

/-- R115: the digest of a sequence of words, and where the six tables stand in the canonical image. -/
def Obligations.DigestOfTheImage : Prop :=
  digest [] = 0
    ∧ (∀ (ws : List Word) (w : Word),
        (digest (ws ++ [w])).toNat = ((digest ws).toNat * 2 % 65536 + (digest ws).toNat / 32768 + w.toNat) % 65536)
    ∧ ∀ b : Bank, b.digest = digest b.image ∧ b.image.length = 356
        ∧ (∀ i : Fin 256, b.image[i.val]? = some b.sineWords[i]) ∧ (∀ i : Fin 32, b.image[256 + i.val]? = some b.sourceWords[i])
        ∧ (∀ i : Fin 24, b.image[288 + i.val]? = some b.profileWords[i])
        ∧ (∀ i : Fin 21, b.image[312 + i.val]? = some b.controlWords[i])
        ∧ (∀ i : Fin 8, b.image[333 + i.val]? = some b.termWords[i])
        ∧ ∀ i : Fin 15, b.image[341 + i.val]? = some b.reportWords[i]

/-- R117, R119: WRITE_TABLE let through the gate: PENDING first, then BAD_TABLE, else the list is written into the shadow
and the answer carries the first outcome that applies, the next index and the remaining count. -/
def Obligations.WriteTableAnswers : Prop :=
  ∀ (s : State) (r : Request) (rest : List Request), AtHead s .writeTable r rest →
    s.engine.protection = .opened ∨ s.engine.protection = .unlocked →
    (s.store.pendingSwap.isSome = true → exec .writeTable s = .next (s.ended r rest ⟨.pending, r.start, 0, []⟩))
      ∧ (s.store.pendingSwap = none → TableId.ofWord r.selector = none →
          exec .writeTable s = .next (s.ended r rest ⟨.badTable, r.start, 0, []⟩))
      ∧ ∀ t, s.store.pendingSwap = none → TableId.ofWord r.selector = some t →
          let entries := splitEntries t.entryWords r.params
          let w := writeEntries t r.start s.store.shadowBank entries
          let outcome : ReplyOutcome :=
            if w.ending = .undefinedCode then .badValue
            else if w.ending = .pastEnd then .partialEnd
            else if w.clamped then .clamped
            else .ok
          let next := if t = .sine then (r.start + w.written) % 256 else r.start + w.written
          exec .writeTable s =
            .next
              (State.ended { s with store := s.store.setShadow w.bank } r rest
                ⟨outcome, next, entries.length - w.written, []⟩)

/-- R118: the entries of a list are written in order from the start index, SINE wrapping, each whole and in its stored
form, up to the first that lies past the end or holds an undefined code; nothing else of the bank changes. -/
def Obligations.ListIsWrittenInOrder : Prop :=
  ∀ (t : TableId) (i : Nat) (b : Bank) (es : List (List Word)), es.length ≤ 256 → (∀ e ∈ es, e.length = t.entryWords) →
    let w := writeEntries t i b es
    let place (j : Nat) : Nat := if t = .sine then (i + j) % 256 else i + j
    let past (j : Nat) : Prop := t ≠ .sine ∧ t.entries ≤ i + j
    w.written ≤ es.length
      ∧ (∀ j e, j < w.written → es[j]? = some e →
          ¬ past j ∧ ∃ v, storeEntry t (place j) e = some v ∧ w.bank.entry t (place j) = v)
      ∧ (∀ t' k, (∀ j, j < w.written → ¬ (t' = t ∧ k = place j)) → w.bank.entry t' k = b.entry t' k)
      ∧ (w.ending = .whole ↔ w.written = es.length)
      ∧ (w.ending = .pastEnd ↔ w.written < es.length ∧ past w.written)
      ∧ (w.ending = .undefinedCode →
          ∃ e, es[w.written]? = some e ∧ ¬ past w.written ∧ storeEntry t (place w.written) e = none)
      ∧ (w.clamped = true ↔ ∃ j e, j < w.written ∧ es[j]? = some e ∧ storeEntry t (place j) e ≠ some e)

/-- R195, R118: the stored form of an entry: each numeric field clamped in its own bits, every other bit as written; an
entry with an undefined code stores nothing; a stored entry is stored unchanged. -/
def Obligations.StoredFormClampsInPlace : Prop :=
  (∀ (t : TableId) (i : Nat) (ws vs : List Word), storeEntry t i ws = some vs →
      vs.length = ws.length ∧ storeEntry t i vs = some vs)
    ∧ (∀ (i : Nat) (w0 w1 w2 w3 : Word),
        (bitField 12 2 w1 = 3 → storeEntry .source i [w0, w1, w2, w3] = none)
          ∧ (bitField 12 2 w1 ≠ 3 → ∃ v1 v2 v3, storeEntry .source i [w0, w1, w2, w3] = some [w0, v1, v2, v3]
              ∧ bitField 0 3 v1 = min 5 (bitField 0 3 w1) ∧ (∀ n, 3 ≤ n → bitAt n v1 = bitAt n w1)
              ∧ v2.toNat = max 1 w2.toNat
              ∧ bitField 0 4 v3 = max 1 (bitField 0 4 w3) ∧ bitField 8 5 v3 = min 24 (bitField 8 5 w3)
              ∧ ∀ n, (4 ≤ n ∧ n < 8) ∨ 13 ≤ n → bitAt n v3 = bitAt n w3)
          ∧ (3 < bitField 0 3 w0 → storeEntry .profile i [w0, w1, w2, w3] = none)
          ∧ (bitField 0 3 w0 ≤ 3 → ∃ v1 v2 v3, storeEntry .profile i [w0, w1, w2, w3] = some [w0, v1, v2, v3]
              ∧ v1.toNat = min 256 w1.toNat ∧ v2.toNat = min 32767 w2.toNat ∧ v3.toNat = min 32767 w3.toNat))
    ∧ (∀ (i : Nat) (w0 w1 : Word),
        ((15 < bitField 0 5 w1 ∨ 15 < bitField 5 5 w1 ∨ 15 < bitField 10 5 w1) → storeEntry .term i [w0, w1] = none)
          ∧ (bitField 0 5 w1 ≤ 15 → bitField 5 5 w1 ≤ 15 → bitField 10 5 w1 ≤ 15 →
              ∃ v0, storeEntry .term i [w0, w1] = some [v0, w1] ∧ bitField 0 8 v0 = max 1 (bitField 0 8 w0)
                ∧ ∀ n, 8 ≤ n → bitAt n v0 = bitAt n w0))
    ∧ ∀ (i : Nat) (w : Word),
        storeEntry .sine i [w] = some [if w = 0x8000 then 0x8001 else w]
          ∧ storeEntry .report i [w] = (if bitField 0 2 w = 3 then none else some [w])
          ∧ ∀ p, Param.all[i]? = some p →
              (p.enumerated = true → storeEntry .control i [w] = if w.toNat ≤ 1 then some [w] else none)
                ∧ (p = .bias → storeEntry .control i [w] = some [if w = 0x8000 then 0x8001 else w])
                ∧ (p.enumerated = false → p ≠ .bias →
                    ∃ v : Word, storeEntry .control i [w] = some [v] ∧ (v.toNat : Int) = max p.lo (min p.hi w.toNat))

/-- R120, R156: READ_TABLE, served in every protection state and while a swap is pending; sent to 63 it is dropped. -/
def Obligations.ReadTableAnswers : Prop :=
  ∀ (s : State) (r : Request) (rest : List Request), AtHead s .readTable r rest →
    let count := r.param 1
    let legal : Prop := r.param 0 ≤ 1 ∧ 1 ≤ count ∧ count ≤ 32
    (r.address = 63 → exec .readTable s = .next (s.dropped rest))
      ∧ (r.address ≠ 63 → TableId.ofWord r.selector = none →
          exec .readTable s = .next (s.ended r rest ⟨.badTable, r.start, 0, []⟩))
      ∧ ∀ t, r.address ≠ 63 → TableId.ofWord r.selector = some t →
          (¬ legal → exec .readTable s = .next (s.ended r rest ⟨.badValue, r.start, 0, []⟩))
            ∧ (legal →
                let bank := s.store.bank (if r.param 0 = 0 then 0 else 1)
                let place (j : Nat) : Nat := if t = .sine then (r.start + j) % 256 else r.start + j
                let n := if t = .sine then count else min count (t.entries - r.start)
                exec .readTable s =
                  .next
                    (s.ended r rest
                      ⟨if n < count then .partialEnd else .ok, place n, count - n,
                        (List.range n).flatMap fun j => bank.entry t (place j)⟩))

/-- R121: CLONE is refused while a swap is pending, else its service begins; at its completion the shadow takes the active
bank's contents whole and the answer carries their digest (log 19). -/
def Obligations.CloneCopiesTheActiveBank : Prop :=
  ∀ (s : State) (r : Request) (rest : List Request),
    (AtHead s .clone r rest → s.engine.protection = .opened ∨ s.engine.protection = .unlocked →
        (s.store.pendingSwap.isSome = true → exec .clone s = .next (s.ended r rest ⟨.pending, 0, 0, []⟩))
          ∧ (s.store.pendingSwap = none →
              exec .clone s = .next { s with engine := { s.engine with operation := some .clone } }))
      ∧ (InService s .clone r rest →
          let t := { s with store := s.store.setShadow s.store.activeBank }
          t.store.shadowBank = s.store.activeBank ∧ t.store.activeBank = s.store.activeBank
            ∧ exec .cloneCompletion s = .next (t.ended r rest ⟨.ok, 0, 0, [s.store.activeBank.digest]⟩))

/-- R122, R123, R126: COMMIT_SWAP and its completion: DIGEST, CONFLICT with the offending entry, or OK with a swap pending
under the digest formed, which completes at once where the ring is UNSYNCED (log 18). The digest compared and answered is
that of the shadow as it stands at the completion (log 19). -/
def Obligations.CommitMakesASwapPending : Prop :=
  ∀ (s : State) (r : Request) (rest : List Request),
    (AtHead s .commitSwap r rest → s.engine.protection = .opened ∨ s.engine.protection = .unlocked →
        (s.store.pendingSwap.isSome = true → exec .commitSwap s = .next (s.ended r rest ⟨.pending, 0, 0, []⟩))
          ∧ (s.store.pendingSwap = none →
              exec .commitSwap s = .next { s with engine := { s.engine with operation := some .commit } }))
      ∧ (InService s .commit r rest → s.store.pendingSwap = none →
          let d := s.store.shadowBank.digest
          let t := { s with store := { s.store with pendingSwap := some d } }
          (d.toNat ≠ r.param 0 → exec .commitCompletion s = .next (s.ended r rest ⟨.digest, 0, 0, [d]⟩))
            ∧ (∀ table k, d.toNat = r.param 0 → s.store.shadowBank.conflict = some (table, k) →
                exec .commitCompletion s = .next (s.ended r rest ⟨.conflict, k, 0, [wordOf table.code]⟩))
            ∧ (d.toNat = r.param 0 → s.store.shadowBank.conflict = none → s.ring.synced = true →
                exec .commitCompletion s = .next (t.ended r rest ⟨.ok, 0, 0, [d]⟩))
            ∧ (d.toNat = r.param 0 → s.store.shadowBank.conflict = none → s.ring.synced = false →
                exec .commitCompletion s = .next ((t.ended r rest ⟨.ok, 0, 0, [d]⟩).swapAtOnce d)))

/-- R123: validation names the first enabled record, in index order, that conflicts with an enabled record of lower index;
with none, the first profile whose arc-off level is not below its arc-on level. As the blocks read a bank (R130), whatever
it holds, no two enabled source records conflict and every arc-off level is below its arc-on level. R110 to R114, R130: what
the blocks read of the stored words: each number clamped into its range, an undefined code as the factory value, a record
that conflicts with an enabled one of lower index as not enabled (log 14), an arc-off level not below its arc-on level as one
less (log 25). -/
def Obligations.ConflictsOfABank : Prop :=
  (∀ b : Bank,
      let bad (k : Nat) : Prop :=
        ∃ j, j < k ∧ (b.storedSource j).enabled = true ∧ (b.storedSource k).enabled = true
          ∧ ((b.storedSource j).ident = (b.storedSource k).ident
            ∨ ((b.storedSource j).role = .voltageMain ∧ (b.storedSource k).role = .voltageMain)
            ∨ ((b.storedSource j).role = .voltageStandby ∧ (b.storedSource k).role = .voltageStandby)
            ∨ ((b.storedSource j).role = .feeder ∧ (b.storedSource k).role = .feeder
              ∧ (b.storedSource j).feeder = (b.storedSource k).feeder))
      let badProfile (n : Nat) : Prop := (b.storedProfile n).arcOn ≤ (b.storedProfile n).arcOff
      (∀ k, b.conflict = some (.source, k) ↔ k < 8 ∧ bad k ∧ ∀ j, j < k → ¬ bad j)
        ∧ (∀ n, b.conflict = some (.profile, n) ↔
            (∀ k, k < 8 → ¬ bad k) ∧ n < 6 ∧ badProfile n ∧ ∀ j, j < n → ¬ badProfile j)
        ∧ (b.conflict = none ↔ (∀ k, k < 8 → ¬ bad k) ∧ ∀ n, n < 6 → ¬ badProfile n))
    ∧ (∀ b : Bank,
        (∀ j k : Fin 8, j ≠ k → (b.source j).enabled = true → (b.source k).enabled = true →
            (b.source j).ident ≠ (b.source k).ident
              ∧ ¬ ((b.source j).role = .voltageMain ∧ (b.source k).role = .voltageMain)
              ∧ ¬ ((b.source j).role = .voltageStandby ∧ (b.source k).role = .voltageStandby)
              ∧ ¬ ((b.source j).role = .feeder ∧ (b.source k).role = .feeder ∧ (b.source j).feeder = (b.source k).feeder))
          ∧ ∀ n : Fin 6, (b.profile n).arcOff < (b.profile n).arcOn)
    ∧ ∀ b : Bank,
        let parameters : List (Param × Int × Int × Int) :=
          [(.nominalFrequency, 0, 1, 0), (.window, 0, 1, 1), (.releaseLag, 1, 8, 3), (.pllKp, 0, 255, 64),
            (.pllKi, 0, 255, 8), (.lockBand, 1, 8192, 410), (.sagLevel, 0, 32767, 5734), (.rating, 0, 32767, 8192),
            (.bias, -32767, 32767, 0), (.lead, 0, 15, 2), (.ovLevel, 0, 32767, 9011)]
          ++ [(.ovCap, 0, 32767, 4096), (.ovLimit, 0, 1, 1), (.derate, 64, 256, 192), (.quietCycles, 0, 65535, 0),
            (.fluctBand, 1, 8192, 41), (.staleSets, 16, 1024, 128), (.thermalClear, 1, 15, 4), (.recoverSets, 1, 255, 8),
            (.healthInterval, 50, 5000, 500), (.auditCycles, 16, 4096, 256)]
        (∀ (i : Nat) (w : Word) (p : Param) (lo hi factory : Int), b.controlWords[i]? = some w →
            parameters[i]? = some (p, lo, hi, factory) →
            b.param p =
              if p = .nominalFrequency ∨ p = .window ∨ p = .ovLimit then
                if w.toNat ≤ 1 then (w.toNat : Int) else factory
              else max lo (min hi (if p = .bias then w.toInt else (w.toNat : Int))))
          ∧ (∀ (i : Nat) (w : Word), b.sineWords[i % 256]? = some w → b.sine i = max (-32767) w.toInt)
          ∧ (∀ (k : Fin 8) (w0 w1 w2 w3 : Word),
              (∀ j : Fin 4, b.sourceWords[4 * k.val + j.val]? = some (![w0, w1, w2, w3] j)) →
              (b.source k).enabled =
                  (bitAt 15 w1
                    && !((List.finRange 8).any fun j =>
                      decide (j < k) && (b.source j).enabled && (b.storedSource k).conflictsWith (b.source j)))
                ∧ (b.source k).ident = w0
                ∧ (b.source k).role =
                    (if bitField 12 2 w1 = 0 then .voltageMain else if bitField 12 2 w1 = 1 then .voltageStandby
                    else .feeder)
                ∧ (b.source k).feeder.val = min 5 (bitField 0 3 w1) ∧ (b.source k).gain = max 1 w2.toNat
                ∧ (b.source k).shift = min 24 (bitField 8 5 w3) ∧ (b.source k).holdLimit = max 1 (bitField 0 4 w3)
                ∧ (b.source k).acceptTest = bitAt 14 w1)
          ∧ (∀ (n : Fin 6) (w0 w1 w2 w3 : Word),
              (∀ j : Fin 4, b.profileWords[4 * n.val + j.val]? = some (![w0, w1, w2, w3] j)) →
              b.profile n =
                { mode :=
                    if bitField 0 3 w0 = 1 then .monitor else if bitField 0 3 w0 = 2 then .reactive
                    else if bitField 0 3 w0 = 3 then .full else .off
                  weight := min 256 w1.toNat
                  arcOn := min 32767 w2.toNat
                  arcOff := if w3.toNat < w2.toNat ∧ w3.toNat < 32767 then w3.toNat else min 32767 w2.toNat - 1
                  wakeEnable := bitAt 15 w0
                  reportArcs := bitAt 14 w0 })
          ∧ (∀ (n : Fin 4) (w0 w1 : Word), b.termWords[2 * n.val]? = some w0 → b.termWords[2 * n.val + 1]? = some w1 →
              (b.term n).enabled = bitAt 15 w0 ∧ (b.term n).trigger = max 1 (bitField 0 8 w0)
                ∧ ∀ c : Condition, c ∈ (b.term n).conditions ↔
                    bitField 0 5 w1 = c.code ∨ bitField 5 5 w1 = c.code ∨ bitField 10 5 w1 = c.code)
          ∧ ∀ (c : Condition) (w : Word), b.reportWords[c.code - 1]? = some w →
              b.routing c =
                if bitField 0 2 w = 0 then .silent else if bitField 0 2 w = 1 then .event
                else if bitField 0 2 w = 2 then .onset
                else if c ∈ [Condition.voltageLost, .converterBlocked, .tableFault, .healthLow] then .event else .silent

/-- R125: CANCEL_SWAP let through the gate. -/
def Obligations.CancelSwapRemovesThePendingSwap : Prop :=
  ∀ (s : State) (r : Request) (rest : List Request), AtHead s .cancelSwap r rest →
    s.engine.protection = .opened ∨ s.engine.protection = .unlocked →
    (s.store.pendingSwap.isSome = true →
        exec .cancelSwap s =
          .next (State.ended { s with store := { s.store with pendingSwap := none } } r rest ⟨.ok, 0, 0, []⟩))
      ∧ (s.store.pendingSwap = none → exec .cancelSwap s = .next (s.ended r rest ⟨.notPending, 0, 0, []⟩))

/-- R52, R87, R126, R135, R145: the end of a cycle. The tracker closes the cycle, then the boundary is raised with the arc
figures that the set that ended the cycle left (R64); a request may fall between the two (R155), none inside the boundary
(log 33). At the boundary the composer rolls its flags, a pending swap completes (R124), then under the bank active after it
the health block, the arc states and quiet timer, the trip terms and the audit count follow. What is offered: the roll's
changes, Q_CLAMPED before N_SCALED (log 15), the swap's reactions, supervision's records and the change of HEALTH_LOW, in an
order of the blocks the spec leaves open (log 1); whether the roll is routed before or after the swap is open too (log 2);
that the table store's records enter first is log 27, the place of the health work log 30. R128, R129: the audit counter at a
boundary and the audit it starts; an audit that completes turns TABLE_FAULT on where the active bank's digest is not the
recorded one, and becomes absent (log 19). -/
def Obligations.AuditsCountAndCompare : Prop :=
  (∀ (s : State) (closed : List Aside),
      s.endCycle closed =
        s.closeCycle.pause closed fun c =>
          c.takeBoundary
            { magnitude := Vector.ofFn fun n =>
                min 32767 (magnitude (c.transform.averages n).idPos (c.transform.averages n).iqPos)
              full := Vector.ofFn fun n => decide ((c.transform.windows[n]).fill = c.transform.length) })
    ∧ (∀ (c : State) (fig : ArcFigures),
      let cycle := c.tracker.cycle
      let count := c.ring.lastReleased
      let rolled : State :=
        { c with
          composer :=
            { c.composer with
              qClamped := c.composer.qSeen, nScaled := c.composer.nSeen, qSeen := false, nSeen := false } }
      let roll :=
        changed .qClamped c.composer.qClamped c.composer.qSeen cycle count
          ++ changed .nScaled c.composer.nScaled c.composer.nSeen cycle count
      (c.store.pendingSwap = none → c.takeBoundary fig = rolled.boundaryBlocks fig [] [roll])
        ∧ ∀ d, c.store.pendingSwap = some d →
            let after := rolled.swapped d
            let swap (t : State) (roll : List Offer) : State :=
              (t.swapTables d).boundaryBlocks fig (swapSupervisionOffers rolled after cycle count)
                [swapIntakeOffers rolled after cycle count,
                  changed .unlocked (!c.tracker.locked) (!after.tracker.locked) cycle count, roll]
            let chosen : State := { rolled with picks := rolled.picks + 1 }
            (roll = [] → c.takeBoundary fig = swap rolled [])
              ∧ (roll ≠ [] → c.takeBoundary fig = swap chosen roll ∨ c.takeBoundary fig = swap (chosen.offer roll) []))
    ∧ (∀ (s : State) (fig : ArcFigures) (earlier : List Offer) (others : List (List Offer)),
        let cycles := s.bank.count .auditCycles
        let counted := s.healthBoundary
        let arcs := counted.arcsAndQuiet fig
        let trips := State.trips { counted with supervision := arcs.1 }
        let t := s.boundaryBlocks fig earlier others
        t =
            State.deliver { s with health := counted.health, supervision := trips.1, store := t.store }
              ((earlier ++ arcs.2 ++ trips.2)
                :: changed .healthLow s.health.low counted.health.low s.tracker.cycle s.ring.lastReleased :: others)
          ∧ (s.store.auditCounter + 1 < cycles →
              t.store = { s.store with auditCounter := s.store.auditCounter + 1 })
          ∧ (cycles ≤ s.store.auditCounter + 1 → s.store.auditInFlight = false →
              t.store = { s.store with auditInFlight := true, auditCounter := 0 })
          ∧ (cycles ≤ s.store.auditCounter + 1 → s.store.auditInFlight = true →
              t.store = { s.store with auditCounter := cycles }))
    ∧ ∀ s : State, s.phase = .running → s.store.auditInFlight = true →
        (s.bank.digest ≠ s.store.recorded →
            exec .auditCompletion s =
              .next
                (State.noteChange { s with store := { s.store with auditInFlight := false, tableFault := true } }
                  .tableFault s.store.tableFault true))
          ∧ (s.bank.digest = s.store.recorded →
              exec .auditCompletion s = .next { s with store := { s.store with auditInFlight := false } })

/-- R126, R127: what a swap completion does in every block: the banks exchange roles, and each block reacts by comparing
the new active bank with the old; that the table store's records enter first is the model's choice (log 27). A ring
returned to UNSYNCED drops the arrivals that wait, also at a swap made at once (log 20), and keeps its base, its last
released values and count (log 21). The records of the reactions: intake's SOURCE records in index order (R12), then its
condition changes; the change of UNLOCKED; supervision's ARC record of each feeder switched off while BURNING or PENDING_OFF
under an old profile that reports arcs, in feeder order (R149, R135; at a swap made at once log 15), then the change of
QUIET; in which order the blocks' records enter is open (log 1). -/
def Obligations.SwapCompletionReachesEveryBlock : Prop :=
  ∀ (s : State) (d : Word),
    let old := s.bank
    let t := s.swapped d
    let new := t.bank
    let cycle := s.tracker.cycle
    let count := s.ring.lastReleased
    let change (c : Condition) : List Offer := changed c (s.cond c) (t.cond c) cycle count
    let source (k : Fin 8) : List Offer :=
      if s.intake.sources[k].state = t.intake.sources[k].state then []
      else [.record ⟨.source k t.intake.sources[k].state, cycle, count⟩]
    let arc (n : Fin 6) : List Offer :=
      if (new.profile n).mode = .off ∧ (old.profile n).mode ≠ .off
          ∧ (s.supervision.arcs[n] = .burning ∨ s.supervision.arcs[n] = .pendingOff)
          ∧ (old.profile n).reportArcs = true then
        [.record ⟨.arc n .dark, cycle, count⟩]
      else []
    let freq : Prop := old.param .nominalFrequency ≠ new.param .nominalFrequency
    let assigned (b : Bank) (n : Fin 6) (k : Fin 8) : Prop :=
      (b.source k).enabled = true ∧ (b.source k).role = .feeder ∧ (b.source k).feeder = n
    s.swapTables d =
        State.recorded (t.noteChange .tableFault s.store.tableFault false) (.swap s.store.shadowNumber)
      ∧ t.store = { s.store with
                    active := s.store.shadowNumber, recorded := d, pendingSwap := none, auditInFlight := false
                    tableFault := false }
      ∧ new = s.store.shadowBank
      ∧ (∀ k : Fin 8, t.intake.sources[k] =
          if (new.source k).enabled = false then ⟨.disabled, 0, 0⟩
          else if (old.source k).enabled = true ∧ (old.source k).ident = (new.source k).ident
              ∧ (old.source k).role = (new.source k).role ∧ (old.source k).feeder = (new.source k).feeder then
            s.intake.sources[k]
          else ⟨.recovering, 0, 0⟩)
      ∧ t.intake.counters = s.intake.counters
      ∧ (freq → t.ring = { s.ring with synced := false, slots := emptySlots, waiting := [] }
          ∧ t.tracker = { s.tracker with locked := false, lockRun := 0, unlockRun := 0, integrator := 0 })
      ∧ (¬ freq → t.ring = s.ring
          ∧ t.tracker =
              if s.intake.voltage ≠ .none ∧ t.intake.voltage = .none then
                { s.tracker with locked := false, lockRun := 0, unlockRun := 0 }
              else s.tracker)
      ∧ t.transform.length = new.windowLength
      ∧ (∀ n : Fin 6, freq ∨ old.param .window ≠ new.param .window
            ∨ (∃ k, assigned old n k ∧ ¬ assigned new n k) ∨ (∃ k, ¬ assigned old n k ∧ assigned new n k)
            ∨ (∃ k, assigned old n k ∧ assigned new n k
                ∧ ((old.source k).ident ≠ (new.source k).ident ∨ (old.source k).gain ≠ (new.source k).gain
                  ∨ (old.source k).shift ≠ (new.source k).shift)) →
          t.transform.windows[n] = Window.cleared new.windowLength)
      ∧ (∀ n : Fin 6, ¬ freq → old.param .window = new.param .window →
          (∀ k, assigned old n k ↔ assigned new n k) →
          (∀ k, assigned new n k → (old.source k).ident = (new.source k).ident ∧ (old.source k).gain = (new.source k).gain
            ∧ (old.source k).shift = (new.source k).shift) →
          t.transform.windows[n] = s.transform.windows[n])
      ∧ (∀ n : Fin 6, t.supervision.arcs[n] =
          if (new.profile n).mode = .off ∧ (old.profile n).mode ≠ .off then .dark else s.supervision.arcs[n])
      ∧ t.supervision.termRuns = Vector.replicate 4 0 ∧ t.supervision.trip = s.supervision.trip
      ∧ (new.count .quietCycles = 0 ∨ (∀ n : Fin 6, (new.profile n).wakeEnable = false) →
          t.supervision.quiet = false ∧ t.supervision.quietTimer = 0)
      ∧ (new.count .quietCycles ≠ 0 → (∃ n : Fin 6, (new.profile n).wakeEnable = true) →
          t.supervision.quiet = s.supervision.quiet ∧ t.supervision.quietTimer = s.supervision.quietTimer)
      ∧ t.composer = s.composer ∧ t.linkC = s.linkC ∧ t.engine = s.engine ∧ t.health = s.health ∧ t.events = s.events
      ∧ swapIntakeOffers s t cycle count =
          sourceIndices.flatMap source ++ change .voltageLost ++ change .standbyInUse ++ change .feederSourceLost
      ∧ swapSupervisionOffers s t cycle count = feederNumbers.flatMap arc ++ change .quiet
      ∧ s.swapAtOnce d =
          (s.swapTables d).deliver
            [swapIntakeOffers s t cycle count, change .unlocked, swapSupervisionOffers s t cycle count]

/-- R116: while no swap is pending, what the shadow holds makes no difference to any command of sample processing, of the
converter side or of the part's own timing; an arrival counts as one where only such things fall inside it. -/
def Obligations.ShadowDoesNotReachProcessing : Prop :=
  ∀ (c : Instr) (s t : State) (b : Bank), processing c = true → s.store.pendingSwap = none → exec c s = .next t →
    exec c (s.withShadow b) = .next (t.withShadow b)

/-! ### Furnace supervision and health at a boundary (R136 to R149, R184, R185) -/

/-- R136, R137: the arc state of each feeder at a boundary: a feeder is evaluated where its enabled FEEDER source is ACTIVE,
its mode is not OFF and its window was full; any other keeps its state. R138: the records supervision offers there are one
ARC record for each completed qualification of a feeder whose profile reports arcs, in feeder order, with the cycle number
and the last released count. -/
def Obligations.ArcStatesAtABoundary : Prop :=
  ∀ (s : State) (fig : ArcFigures) (n : Fin 6),
    let before := s.supervision.arcs[n]
    let after := (s.arcsAndQuiet fig).1.arcs[n]
    let p := s.bank.profile n
    let high : Prop := p.arcOn ≤ (fig.magnitude[n] : Int)
    let low : Prop := (fig.magnitude[n] : Int) < p.arcOff
    let evaluated : Prop :=
      (∃ k : Fin 8, (s.bank.source k).enabled = true ∧ (s.bank.source k).role = .feeder
          ∧ (s.bank.source k).feeder = n ∧ s.intake.sources[k].state = .active)
        ∧ p.mode ≠ .off ∧ fig.full[n] = true
    (¬ evaluated → after = before)
      ∧ (evaluated → before = .dark → after = if high then .pendingOn else .dark)
      ∧ (evaluated → before = .pendingOn → after = if high then .burning else .dark)
      ∧ (evaluated → before = .burning → after = if low then .pendingOff else .burning)
      ∧ (evaluated → before = .pendingOff → after = if low then .dark else .burning)
      ∧ (s.arcsAndQuiet fig).2.filter Offer.isRecord = feederNumbers.flatMap (s.arcRecord (s.arcsAndQuiet fig).1)

/-- R140 to R142: the quiet timer and QUIET at a boundary, with the arc states just evaluated; and all that supervision
offers at both steps: for each feeder in order its ARC record, then QUIET's turning off where it is the first wake-enabled
feeder to enter PENDING_ON while QUIET is on, then the change the quiet step makes. -/
def Obligations.QuietAtABoundary : Prop :=
  ∀ (s : State) (fig : ArcFigures),
    let v := (s.arcsAndQuiet fig).1
    let dark : Prop := ∀ n : Fin 6, (s.bank.profile n).wakeEnable = true → v.arcs[n] = .dark
    let canRun : Prop := s.bank.count .quietCycles ≠ 0 ∧ ∃ n : Fin 6, (s.bank.profile n).wakeEnable = true
    let timer := min 65535 (s.supervision.quietTimer + 1)
    let wakes (n : Fin 6) : Bool :=
      (s.bank.profile n).wakeEnable && decide (s.supervision.arcs[n] = .dark ∧ v.arcs[n] = .pendingOn)
    (s.supervision.quiet = true → dark → v.quiet = true ∧ v.quietTimer = s.supervision.quietTimer)
      ∧ (s.supervision.quiet = true → ¬ dark → v.quiet = false ∧ v.quietTimer = 0)
      ∧ (s.supervision.quiet = false → canRun → dark →
          v.quietTimer = timer ∧ (v.quiet = true ↔ s.bank.count .quietCycles ≤ timer))
      ∧ (s.supervision.quiet = false → ¬ (canRun ∧ dark) → v.quiet = false ∧ v.quietTimer = 0)
      ∧ v.termRuns = s.supervision.termRuns ∧ v.trip = s.supervision.trip
      ∧ (s.arcsAndQuiet fig).2 =
          (feederNumbers.flatMap fun n =>
            s.arcRecord v n
              ++ if s.supervision.quiet = true ∧ wakes n = true ∧ ∀ j, j < n → wakes j = false then
                  [.change .quiet false s.tracker.cycle s.ring.lastReleased]
                else [])
            ++ changed .quiet (s.supervision.quiet && feederNumbers.all fun n => !wakes n) v.quiet s.tracker.cycle
                s.ring.lastReleased

/-- R145, R146: the trip terms at a boundary: the runs, the line and the TRIP records in term order. A term whose run has
stopped at 255 triggers no further (log 17). -/
def Obligations.TripTermsAtABoundary : Prop :=
  ∀ s : State,
    let holds (n : Fin 4) : Bool :=
      (s.bank.term n).enabled && decide ((s.bank.term n).conditions ≠ []) && (s.bank.term n).conditions.all s.cond
    let run (n : Fin 4) : Nat := s.supervision.termRuns[n]
    let triggers (n : Fin 4) : Bool := holds n && decide (run n < 255 ∧ run n + 1 = (s.bank.term n).trigger)
    (∀ n : Fin 4, s.trips.1.termRuns[n] = if holds n then min 255 (run n + 1) else 0)
      ∧ (s.trips.1.trip = true ↔ s.supervision.trip = true ∨ ∃ n, triggers n = true)
      ∧ s.trips.1.arcs = s.supervision.arcs ∧ s.trips.1.quiet = s.supervision.quiet
      ∧ s.trips.1.quietTimer = s.supervision.quietTimer
      ∧ s.trips.2 =
          ([0, 1, 2, 3] : List (Fin 4)).filterMap fun n =>
            if triggers n then
              some (.record ⟨.trip n (s.bank.term n).trigger, s.tracker.cycle, s.ring.lastReleased⟩)
            else none

/-- R147: once asserted, the trip line stays asserted through every command but CLEAR_TRIP, POWER_ON and HARD_RESET, an arrival
with no reset and no service of a CLEAR_TRIP inside it among them. -/
def Obligations.TripLineLatches : Prop :=
  ∀ (c : Instr) (s t : State), c ≠ .clearTrip → c ≠ .powerOn → c ≠ .hardReset →
    (∀ x ∈ c.asides, x ≠ .powerOn ∧ x ≠ .hardReset) →
    (.serve ∈ c.asides →
      (∀ r ∈ s.engine.queue, RequestCode.ofWord r.code ≠ some .clearTrip) ∧ ∀ ws, .linkMFrame ws ∉ c.asides) →
    s.supervision.trip = true →
    exec c s = .next t → t.supervision.trip = true

/-- R143, R148: WAKE and CLEAR_TRIP, served in every protection state and dropped as broadcasts. -/
def Obligations.WakeAndClearTrip : Prop :=
  ∀ (s : State) (r : Request) (rest : List Request),
    (AtHead s .wake r rest →
        exec .wake s =
          .next
            (if r.address = 63 then s.dropped rest
            else
              (State.noteChange { s with supervision := { s.supervision with quiet := false, quietTimer := 0 } } .quiet
                s.supervision.quiet false).ended r rest ⟨.ok, 0, 0, []⟩))
      ∧ (AtHead s .clearTrip r rest →
          exec .clearTrip s =
            .next
              (if r.address = 63 then s.dropped rest
              else
                State.ended
                  { s with supervision := { s.supervision with trip := false, termRuns := Vector.replicate 4 0 } }
                  r rest ⟨.ok, 0, 0, []⟩))

/-- R184, R185: the health block at a boundary: the cycle just closed counted, and the interval ended where the interval
count reaches HEALTH_INTERVAL. -/
def Obligations.HealthAtABoundary : Prop :=
  ∀ s : State, (∀ a : Fin 5, s.health.raw[a] ≤ 65535) →
    let h := s.health
    let u := s.healthBoundary.health
    let up (a : Fin 5) (on : Prop) [Decidable on] : Nat := if on then min 65535 (h.raw[a] + 1) else h.raw[a]
    let step := (s.tracker.lastStep.getD 0 : Nat)
    let raw : Fin 5 → Nat :=
      ![up 0 (s.tracker.lastStep.isSome = true ∧ s.bank.param .fluctBand < step), h.raw[1],
        up 2 (s.composer.qClamped = true ∨ s.composer.nScaled = true), h.raw[3], up 4 (h.blockedSeen = true)]
    let figure (a : Fin 5) : Nat := 253 - min 252 (raw a / ![2, 16, 2, 4, 2] a)
    u.blockedSeen = false ∧ u.threshold = h.threshold
      ∧ (h.interval + 1 < s.bank.count .healthInterval →
          u.interval = h.interval + 1 ∧ u.value = h.value ∧ u.worst = h.worst ∧ u.low = h.low
            ∧ ∀ a : Fin 5, u.raw[a] = raw a)
      ∧ (s.bank.count .healthInterval ≤ h.interval + 1 →
          u.interval = 0
            ∧ (∀ a : Fin 5, u.raw[a] = 0 ∧ u.value[a] = figure a ∧ u.worst[a] = min h.worst[a] (figure a))
            ∧ (u.low = true ↔ ∃ a : Fin 5, h.threshold[a] ≠ 0 ∧ figure a ≤ h.threshold[a]))

/-! ### Management engine (R153 to R167) -/

/-- R153, R154: a request for this part or for all parts joins the queue of four or is counted as an overrun; one for
another part changes nothing. -/
def Obligations.RequestFrameJoinsTheQueue : Prop :=
  ∀ (s : State) (r : Request), s.phase = .running → s.linkMSynced = true → r.Sendable →
    exec (.requestFrame r.frame) s =
      .next
        (if r.address = s.engine.address ∨ r.address = 63 then
          if s.engine.queue.length < 4 then { s with engine := { s.engine with queue := s.engine.queue ++ [r] } }
          else { s with engine := { s.engine with overrun := min 65535 (s.engine.overrun + 1) } }
        else s)

/-- R156, R158, R159: what the gate refuses is answered so and changes nothing; a broadcast that is no table request, and
a refused broadcast, is dropped; an unknown code is answered UNKNOWN_REQUEST. -/
def Obligations.GateRefusesByProtectionState : Prop :=
  ∀ (s : State) (r : Request) (rest : List Request),
    (∀ c, AtHead s c r rest →
        let table : Prop := c ∈ [RequestCode.writeTable, .clone, .commitSwap, .cancelSwap]
        let next := if c = .writeTable then r.start else 0
        (r.address = 63 → ¬ table → exec c.command s = .next (s.dropped rest))
          ∧ (r.address ≠ 63 ∨ table → s.engine.protection = .opened →
              c ∈ [RequestCode.clearCode, .unlock, .lock] →
              exec c.command s = .next (s.ended r rest ⟨.noCode, next, 0, []⟩))
          ∧ (r.address ≠ 63 ∨ table → s.engine.protection = .locked →
              c ∈ [RequestCode.writeTable, .clone, .commitSwap, .cancelSwap, .inject, .setThreshold, .setAttentionMode,
                .resetController, .setCode, .clearCode] →
              exec c.command s = .next (s.ended r rest ⟨.refusedByState, next, 0, []⟩))
          ∧ (r.address ≠ 63 ∨ table → s.engine.protection = .frozen →
              c ∈ [RequestCode.writeTable, .clone, .commitSwap, .cancelSwap, .inject, .setThreshold, .setAttentionMode,
                .resetController, .setCode, .clearCode, .unlock, .lock] →
              exec c.command s = .next (s.ended r rest ⟨.refusedByState, next, 0, []⟩)))
      ∧ (s.phase = .running → s.engine.operation = none → s.engine.queue = r :: rest →
          RequestCode.ofWord r.code = none →
          exec .unknownRequest s =
            .next (if r.address = 63 then s.dropped rest else s.ended r rest ⟨.unknownRequest, 0, 0, []⟩))

/-- R160, R161, R164, R165: SET_CODE, CLEAR_CODE, LOCK and FREEZE where the gate lets them through. -/
def Obligations.CodeLockAndFreeze : Prop :=
  ∀ (s : State) (r : Request) (rest : List Request),
    let answered (t : State) : State := if r.address = 63 then s.dropped rest else t.ended r rest ⟨.ok, 0, 0, []⟩
    (∀ hi lo : Word, AtHead s .setCode r rest → s.engine.protection = .opened ∨ s.engine.protection = .unlocked →
        r.params = [hi, lo] →
        exec .setCode s =
          .next
            (answered
              { s with
                engine := { s.engine with code := some (BitVec.append hi lo), protection := .unlocked } }))
      ∧ (AtHead s .clearCode r rest → s.engine.protection = .unlocked →
          exec .clearCode s =
            .next (answered { s with engine := { s.engine with code := none, protection := .opened } }))
      ∧ (AtHead s .lock r rest → s.engine.protection = .unlocked ∨ s.engine.protection = .locked →
          exec .lock s = .next (answered { s with engine := { s.engine with protection := .locked } }))
      ∧ (AtHead s .freeze r rest → s.engine.protection = .frozen → exec .freeze s = .next (answered s))
      ∧ (AtHead s .freeze r rest → s.engine.protection ≠ .frozen → s.store.pendingSwap = none →
          exec .freeze s = .next (answered { s with engine := { s.engine with protection := .frozen } }))
      ∧ (AtHead s .freeze r rest → s.engine.protection ≠ .frozen → s.store.pendingSwap.isSome = true →
          exec .freeze s =
            .next (if r.address = 63 then s.dropped rest else s.ended r rest ⟨.pending, 0, 0, []⟩))

/-- R162, R163: UNLOCK in each protection state; the mismatch that raises the attempt count to 5 records an ACCESS event
before the response is built. -/
def Obligations.UnlockChecksTheCode : Prop :=
  ∀ (s : State) (r : Request) (rest : List Request) (hi lo : Word), AtHead s .unlock r rest → r.address ≠ 63 →
    r.params = [hi, lo] →
    let code : BitVec 32 := BitVec.append hi lo
    let missed : State := { s with engine := { s.engine with attempts := s.engine.attempts + 1 } }
    (s.engine.protection = .opened → exec .unlock s = .next (s.ended r rest ⟨.noCode, 0, 0, []⟩))
      ∧ (s.engine.protection = .unlocked → exec .unlock s = .next (s.ended r rest ⟨.ok, 0, 0, []⟩))
      ∧ (s.engine.protection = .locked → s.engine.attempts = 5 →
          exec .unlock s = .next (s.ended r rest ⟨.expired, 0, 0, []⟩))
      ∧ (s.engine.protection = .locked → s.engine.attempts ≠ 5 → s.engine.code = some code →
          exec .unlock s =
            .next
              (State.ended { s with engine := { s.engine with protection := .unlocked, attempts := 0 } } r rest
                ⟨.ok, 0, 0, []⟩))
      ∧ (s.engine.protection = .locked → s.engine.attempts ≠ 5 → s.engine.code ≠ some code →
          exec .unlock s =
            .next
              ((if s.engine.attempts + 1 = 5 then missed.recorded (.access 5) else missed).ended r rest
                ⟨.codeMismatch, 0, 0, []⟩))

/-- R166, R167, R187: ECHO, READ_STATUS and READ_HEALTH answer and change nothing, in every protection state. -/
def Obligations.ReadsChangeNothing : Prop :=
  ∀ (s : State) (r : Request) (rest : List Request),
    let answered (payload : List Word) : State :=
      if r.address = 63 then s.dropped rest else s.ended r rest ⟨.ok, 0, 0, payload⟩
    (AtHead s .echo r rest → exec .echo s = .next (answered [0x005A, 0x3C96]))
      ∧ (AtHead s .readStatus r rest → exec .readStatus s = .next (answered s.statusRecord))
      ∧ (AtHead s .readHealth r rest →
          exec .readHealth s =
            .next
              (answered
                ((([0, 1, 2, 3, 4] : List (Fin 5)).flatMap fun a =>
                    [wordOf s.health.value[a], wordOf s.health.worst[a], wordOf s.health.threshold[a],
                      wordOf s.health.raw[a]])
                  ++ [wordOf s.health.interval, if s.health.low then 1 else 0])))

/-- R167 and the status record's layout: each item stands in its bits, with the value of the moment. R157, R174: the words of
the response frame, with the state as it stands at its building, and of an event record. -/
def Obligations.StatusRecordHoldsEachItem : Prop :=
  (∀ s : State, s.EngineInv → s.IntakeInv → s.OutputInv → s.EventInv → s.TrackerInv →
    let w (n : Nat) : Word := s.statusRecord.getD n 0
    let c := s.intake.counters
    s.statusRecord.length = 29
      ∧ (w 0).toNat = (s.composer.lastSource.map RefSource.code).getD 0
      ∧ bitField 0 2 (w 1) = s.engine.protection.code ∧ bitField 2 3 (w 1) = s.engine.attempts
      ∧ bitAt 5 (w 1) = decide (s.engine.attempts = 5)
      ∧ bitField 0 1 (w 2) = s.store.active.val ∧ bitAt 1 (w 2) = s.store.pendingSwap.isSome
      ∧ bitAt 2 (w 2) = s.store.auditInFlight
      ∧ bitAt 0 (w 3) = s.tracker.locked ∧ bitField 1 2 (w 3) = s.intake.voltage.code
      ∧ (∀ k : Fin 8, bitField (2 * k) 2 (w 4) = s.intake.sources[k].state.code)
      ∧ (∀ n : Fin 6, bitField (2 * n) 2 (w 5) = s.supervision.arcs[n].code)
      ∧ (∀ x : Condition, bitAt (x.code - 1) (w 6) = s.cond x)
      ∧ bitAt 0 (w 7) = s.supervision.trip ∧ bitAt 1 (w 7) = s.supervision.quiet
      ∧ (w 8).toNat = s.composer.injRemaining
      ∧ (w 9).toNat = c.malformed ∧ (w 10).toNat = c.foreign ∧ (w 11).toNat = c.duplicate ∧ (w 12).toNat = c.late
      ∧ (w 13).toNat = c.held ∧ (w 14).toNat = c.resync
      ∧ (∀ k : Fin 8, (w (15 + k)).toNat = c.saturation[k])
      ∧ (w 23).toNat = s.engine.overrun
      ∧ bitField 0 5 (w 24) = s.events.queue.length ∧ bitAt 15 (w 24) = s.events.overflow
      ∧ (w 25).toNat = s.linkC.capability ∧ (w 26).toNat = s.linkC.faultCode
      ∧ (s.engine.monitor = .strap → w 27 = 0x0100) ∧ (∀ q, s.engine.monitor = .quantity q → (w 27).toNat = q.val)
      ∧ (w 28).toNat = s.tracker.cycle)
    ∧ (∀ (s : State) (r : Request) (p : Reply),
        let frame := s.responseFrame r p
        let w (n : Nat) : Word := frame.getD n 0
        frame.length = 9 + p.payload.length
          ∧ w 0 = 0x0A03 ∧ (w 1).toNat = frame.length % 65536
          ∧ bitField 0 6 (w 2) = r.address.toNat ∧ bitField 6 2 (w 2) = 0 ∧ bitField 8 8 (w 2) = r.tag.toNat
          ∧ w 3 = r.code
          ∧ [ReplyOutcome.ok, .clamped, .partialEnd, .badValue, .badTable, .refusedByState, .expired, .pending, .notPending,
              .digest, .conflict, .noCode, .codeMismatch, .unknownRequest][(w 4).toNat]? = some p.outcome
          ∧ [Protection.opened, .unlocked, .locked, .frozen][bitField 0 2 (w 5)]? = some s.engine.protection
          ∧ bitAt 2 (w 5) = decide (s.engine.attempts = 5) ∧ bitAt 3 (w 5) = decide (s.events.queue ≠ [])
          ∧ bitField 4 12 (w 5) = 0
          ∧ (w 6).toNat = p.next % 65536 ∧ (w 7).toNat = p.remaining % 65536
          ∧ (frame.drop 8).dropLast = p.payload ∧ w (8 + p.payload.length) = checkWord frame.dropLast)
    ∧ ∀ e : EventRecord,
        let w (n : Nat) : Word := e.words.getD n 0
        let holds (kind : Nat) (subject : Option Nat) (detail : Nat) : Prop :=
          bitField 0 4 (w 0) = kind ∧ bitAt 15 (w 0) = subject.isSome ∧ (w 1).toNat = subject.getD 0 % 65536
            ∧ (w 2).toNat = detail % 65536
        e.words.length = 5 ∧ bitField 4 10 (w 0) = 0 ∧ bitAt 14 (w 0) = e.setCount.isSome
          ∧ (w 3).toNat = e.cycle % 65536 ∧ (w 4).toNat = e.setCount.getD 0 % 65536
          ∧ match e.body with
            | .reset kind result =>
              holds 1 (some ([ResetKind.powerOn, .hard, .soft].idxOf kind))
                ([SelfTestResult.pass, .banksReinit].idxOf result)
            | .link l regained => holds 2 (some ([Link.m, .c].idxOf l)) (if regained then 1 else 0)
            | .source k st => holds 3 (some k.val) ([SourceState.disabled, .recovering, .active, .lost].idxOf st)
            | .resync k n => holds 4 (some k.val) n
            | .condition c on =>
              holds 5
                (some
                  ([Condition.voltageLost, .unlocked, .sag, .overvoltage, .feederSourceLost, .standbyInUse,
                    .converterBlocked, .converterStale, .thermalDerate, .qClamped, .nScaled, .tableFault, .quiet,
                    .injecting, .healthLow].idxOf c + 1))
                (if on then 1 else 0)
            | .swap bank => holds 6 none bank.val
            | .arc n st => holds 7 (some n.val) ([ArcState.dark, .pendingOn, .burning, .pendingOff].idxOf st)
            | .trip n trigger => holds 8 (some n.val) trigger
            | .access n => holds 9 none n

/-- R99: SET_MONITOR, served in every protection state. -/
def Obligations.SetMonitorSelects : Prop :=
  ∀ (s : State) (r : Request) (rest : List Request), AtHead s .setMonitor r rest →
    (r.address = 63 → exec .setMonitor s = .next (s.dropped rest))
      ∧ (∀ q : Fin 16, r.address ≠ 63 → r.param 0 = q.val →
          exec .setMonitor s =
            .next
              (State.ended { s with engine := { s.engine with monitor := .quantity q } } r rest
                ⟨.ok, 0, 0, [wordOf q.val]⟩))
      ∧ (r.address ≠ 63 → r.param 0 = 0x0100 →
          exec .setMonitor s =
            .next
              (State.ended { s with engine := { s.engine with monitor := .strap } } r rest ⟨.ok, 0, 0, [0x0100]⟩))
      ∧ (r.address ≠ 63 → 16 ≤ r.param 0 → r.param 0 ≠ 0x0100 →
          exec .setMonitor s =
            .next (s.ended r rest ⟨.badValue, 0, 0, [wordOf s.engine.monitor.code]⟩))

/-- R88, R90, R91: INJECT writes the injection record, each value clamped, and turns INJECTING on; INJECT_CLEAR ends an
active injection and changes nothing else. R89: an injection of duration n is sent in exactly n sets, the last of which
ends it; one until cleared is not counted; its values and mode stay. -/
def Obligations.InjectionRequestsAndCountdown : Prop :=
  (∀ (s : State) (r : Request) (rest : List Request),
      (∀ ah al bh bl ch cl n : Word, AtHead s .inject r rest →
          s.engine.protection = .opened ∨ s.engine.protection = .unlocked → r.params = [ah, al, bh, bl, ch, cl, n] →
          let v : Phases := ⟨value24 ah al, value24 bh bl, value24 ch cl⟩
          let stored : Phases := ⟨saturate v.a, saturate v.b, saturate v.c⟩
          exec .inject s =
            .next
              (if r.address = 63 then s.dropped rest
              else
                (State.noteChange
                  { s with
                    composer :=
                      { s.composer with
                        injActive := true, injValues := stored, injCounted := decide (n ≠ 0), injRemaining := n.toNat } }
                  .injecting s.composer.injActive true).ended r rest
                    ⟨if stored = v then .ok else .clamped, 0, 0, []⟩))
        ∧ (AtHead s .injectClear r rest →
            exec .injectClear s =
              .next
                (if r.address = 63 then s.dropped rest
                else if s.composer.injActive then
                  (State.noteChange { s with composer := { s.composer with injActive := false, injRemaining := 0 } }
                    .injecting true false).ended r rest ⟨.ok, 0, 0, []⟩
                else s.ended r rest ⟨.ok, 0, 0, []⟩)))
    ∧ ∀ (c : Composer) (v : Phases) (n k : Nat),
        let after := Composer.countdown^[k] (c.inject v n)
        after.injValues = (c.inject v n).injValues ∧ after.injCounted = decide (n ≠ 0)
          ∧ (n ≠ 0 → after.injActive = decide (k < n) ∧ after.injRemaining = n - k)
          ∧ (n = 0 → after.injActive = true ∧ after.injRemaining = 0)

/-- R186, R188: SET_THRESHOLD, with HEALTH_LOW evaluated at once. -/
def Obligations.SetThresholdEvaluatesHealthLow : Prop :=
  ∀ (s : State) (r : Request) (rest : List Request), AtHead s .setThreshold r rest →
    s.engine.protection = .opened ∨ s.engine.protection = .unlocked → r.address ≠ 63 →
    let a := r.param 0
    let legal : Prop := 1 ≤ a ∧ a ≤ 5 ∧ r.param 1 ≤ 253
    let thresholds : Vector Nat 5 :=
      Vector.ofFn fun i : Fin 5 => if i.val + 1 = a then r.param 1 else s.health.threshold[i]
    let low := decide (∃ i : Fin 5, thresholds[i] ≠ 0 ∧ s.health.value[i] ≤ thresholds[i])
    (legal →
        exec .setThreshold s =
          .next
            ((State.noteChange { s with health := { s.health with threshold := thresholds, low := low } } .healthLow
              s.health.low low).ended r rest ⟨.ok, 0, 0, thresholds.toList.map wordOf⟩))
      ∧ (¬ legal →
          exec .setThreshold s =
            .next (s.ended r rest ⟨.badValue, 0, 0, s.health.threshold.toList.map wordOf⟩))

/-! ### Events and the attention line (R175 to R180) -/

/-- R175, R176, R178, R179: the records several blocks offer at one moment enter in some order that holds each once and
each block's in its own order (log 1), while fewer than 16 are queued; a discarded record sets the overflow flag alone. -/
def Obligations.OfferedRecordsEnterOrOverflow : Prop :=
  ∀ (s : State) (groups : List (List Offer)), s.events.queue.length ≤ 16 →
    let e := (s.deliver groups).events
    ∃ recs : List EventRecord,
      recs.Perm (groups.flatMap fun g => g.filterMap (Offer.routed s.bank))
        ∧ (∀ g ∈ groups, (g.filterMap (Offer.routed s.bank)).Sublist recs)
        ∧ e.queue = (s.events.queue ++ recs).take 16
        ∧ e.overflow = (s.events.overflow || decide (16 < s.events.queue.length + recs.length))
        ∧ (e.queue = s.events.queue → e.line = s.events.line ∧ e.pulse = s.events.pulse)
        ∧ (e.queue ≠ s.events.queue → e.line = true
            ∧ e.pulse = if s.engine.attention = .pulsed then some 100 else s.events.pulse)

/-- R177, R178: READ_EVENTS: up to `n` of the oldest records leave the queue into the payload, with their number, the
number left and the overflow flag, which becomes clear; in LATCHED mode the line follows the queue. -/
def Obligations.ReadEventsRemovesTheOldest : Prop :=
  ∀ (s : State) (r : Request) (rest : List Request), AtHead s .readEvents r rest →
    let n := r.param 0
    let taken := s.events.queue.take n
    let left := s.events.queue.drop n
    (r.address = 63 → exec .readEvents s = .next (s.dropped rest))
      ∧ (r.address ≠ 63 → 1 ≤ n → n ≤ 8 →
          exec .readEvents s =
            .next
              (State.ended
                { s with
                  events :=
                    { queue := left
                      overflow := false
                      line := if s.engine.attention = .latched then decide (left ≠ []) else s.events.line
                      pulse := s.events.pulse } }
                r rest
                ⟨.ok, 0, 0,
                  [wordOf taken.length, wordOf left.length, if s.events.overflow then 1 else 0]
                    ++ taken.flatMap EventRecord.words⟩))
      ∧ (r.address ≠ 63 → n = 0 ∨ 8 < n → exec .readEvents s = .next (s.ended r rest ⟨.badValue, 0, 0, []⟩))

/-- R179, R180: SET_ATTENTION_MODE, and the end of a pulse. -/
def Obligations.AttentionModeAndPulse : Prop :=
  ∀ (s : State) (r : Request) (rest : List Request),
    (AtHead s .setAttentionMode r rest → s.engine.protection = .opened ∨ s.engine.protection = .unlocked →
        r.address ≠ 63 →
        (r.param 0 = 0 → s.engine.attention = .pulsed →
            exec .setAttentionMode s =
              .next
                (State.ended
                  { s with
                    engine := { s.engine with attention := .latched }
                    events := { s.events with line := decide (s.events.queue ≠ []), pulse := none } }
                  r rest ⟨.ok, 0, 0, [0]⟩))
          ∧ (r.param 0 = 1 → s.engine.attention = .latched →
              exec .setAttentionMode s =
                .next
                  (State.ended
                    { s with
                      engine := { s.engine with attention := .pulsed }
                      events := { s.events with line := false } }
                    r rest ⟨.ok, 0, 0, [1]⟩))
          ∧ (r.param 0 = 0 → s.engine.attention = .latched →
              exec .setAttentionMode s = .next (s.ended r rest ⟨.ok, 0, 0, [0]⟩))
          ∧ (r.param 0 = 1 → s.engine.attention = .pulsed →
              exec .setAttentionMode s = .next (s.ended r rest ⟨.ok, 0, 0, [1]⟩))
          ∧ (1 < r.param 0 →
              exec .setAttentionMode s =
                .next
                  (s.ended r rest
                    ⟨.badValue, 0, 0, [if s.engine.attention = .latched then 0 else 1]⟩)))
      ∧ (s.phase = .running → s.engine.attention = .pulsed → s.events.pulse.isSome = true →
          exec .attentionPulseEnd s = .next { s with events := { s.events with line := false, pulse := none } })

/-! ### Invariants of the engine and the event unit, and what freezing isolates -/

/-- R124, R126, R152, R154, R160 to R165: the engine's ranges and what each protection state says of the code, the attempts
and the pending swap, in every state a step reaches from one where they hold. -/
def Obligations.EngineKeepsItsForm : Prop := ∀ s t : State, s.EngineInv → step s = .next t → t.EngineInv

/-- R165: while the part is FROZEN neither bank's contents, the active bank number, the recorded digest nor the access code
changes, and only POWER_ON and HARD_RESET, by themselves or inside an arrival, leave that state. -/
def Obligations.FrozenPartIsolatesBanksAndCode : Prop :=
  ∀ (c : Instr) (s t : State), s.EngineInv → s.engine.protection = .frozen → c ≠ .powerOn → c ≠ .hardReset →
    (∀ x ∈ c.asides, x ≠ .powerOn ∧ x ≠ .hardReset) →
    exec c s = .next t →
    t.engine.protection = .frozen ∧ t.engine.code = s.engine.code ∧ t.store.bank0 = s.store.bank0
      ∧ t.store.bank1 = s.store.bank1 ∧ t.store.active = s.store.active ∧ t.store.recorded = s.store.recorded

/-- R175, R178, R179: at most 16 records; in LATCHED mode the line is asserted exactly while the queue holds a record, in
PULSED mode exactly while a pulse runs. -/
def Obligations.EventUnitKeepsItsForm : Prop := ∀ s t : State, s.EventInv → step s = .next t → t.EventInv

/-- The state after reset meets every invariant stated here (its open values are named in log 3). -/
def Obligations.ResetMeetsTheInvariants : Prop :=
  State.reset.IntakeInv ∧ State.reset.RingInv ∧ State.reset.RingAtRest ∧ State.reset.TrackerInv
    ∧ State.reset.WindowInv ∧ State.reset.OutputInv ∧ State.reset.CycleCountsInv ∧ State.reset.EngineInv
    ∧ State.reset.EventInv
end

