-- ==== Sys2Proof/Laws/Arith.lean ====
section
/-! SUPPORT. What the numeric conventions of R1 can give, and the ranges of the parameters as the blocks read them. -/

namespace Sys2Proof.Machine

theorem le_clampInt {lo hi x : Int} (h : lo ≤ hi) : lo ≤ clampInt lo hi x := by
  unfold clampInt; split <;> [omega; split <;> omega]

theorem clampInt_le {lo hi x : Int} (h : lo ≤ hi) : clampInt lo hi x ≤ hi := by
  unfold clampInt; split <;> [omega; split <;> omega]

theorem clampInt_of_mem {lo hi x : Int} (h1 : lo ≤ x) (h2 : x ≤ hi) : clampInt lo hi x = x := by
  unfold clampInt; rw [if_neg (by omega), if_neg (by omega)]

theorem saturate_inIu (x : Int) : InIu (saturate x) := ⟨le_clampInt (by omega), clampInt_le (by omega)⟩

theorem saturate_of_inIu {x : Int} (h : InIu x) : saturate x = x := clampInt_of_mem h.1 h.2

/-- A rounded shift of a value of magnitude at most `n·2^k` has magnitude at most `n`. -/
theorem roundedShift_natAbs_le {k n : Nat} {x : Int} (h : x.natAbs ≤ n * 2 ^ k) : (roundedShift k x).natAbs ≤ n := by
  by_cases hk : k = 0
  · subst hk; simpa [roundedShift] using h
  · have hm : (x.natAbs + 2 ^ (k - 1)) / 2 ^ k ≤ n := by
      have h2 : 2 ^ k = 2 * 2 ^ (k - 1) := by
        obtain ⟨j, rfl⟩ := Nat.exists_eq_succ_of_ne_zero hk
        simp [Nat.pow_succ, Nat.mul_comm]
      have hp : 0 < 2 ^ (k - 1) := Nat.two_pow_pos _
      have hlt : x.natAbs + 2 ^ (k - 1) < (n + 1) * 2 ^ k := by
        have : (n + 1) * 2 ^ k = n * 2 ^ k + 2 ^ k := by ring
        omega
      exact Nat.le_of_lt_succ ((Nat.div_lt_iff_lt_mul (Nat.two_pow_pos _)).2 hlt)
    unfold roundedShift
    simp only [hk, if_false]
    split
    · rw [Int.natAbs_neg, Int.natAbs_natCast]; exact hm
    · rw [Int.natAbs_natCast]; exact hm

theorem countUp_le (n c : Nat) : countUp n c ≤ 65535 := by unfold countUp; omega

theorem bitField_lt (lo len : Nat) (w : Word) : bitField lo len w < 2 ^ len := Nat.mod_lt _ (Nat.two_pow_pos _)

theorem magnitude_le (x y : Int) : magnitude x y ≤ x.natAbs + y.natAbs := by unfold magnitude; omega

theorem Param.lo_le_hi (p : Param) : p.lo ≤ p.hi := by cases p <;> decide

theorem Param.factory_mem (p : Param) : p.lo ≤ p.factory ∧ p.factory ≤ p.hi := by cases p <;> decide

/-- R113, R130: a parameter as the blocks read it is within its range. -/
theorem Bank.param_mem (b : Bank) (p : Param) : p.lo ≤ b.param p ∧ b.param p ≤ p.hi := by
  unfold Bank.param Param.readWord
  split
  · next he =>
    split
    · next h => cases p <;> simp [Param.enumerated] at he <;> rcases h with h | h <;> rw [h] <;> decide
    · exact p.factory_mem
  · exact ⟨le_clampInt p.lo_le_hi, clampInt_le p.lo_le_hi⟩

/-- R113: a count parameter within the range of its parameter. -/
theorem Bank.count_mem (b : Bank) (p : Param) (h : 0 ≤ p.lo) : p.lo ≤ (b.count p : Int) ∧ (b.count p : Int) ≤ p.hi := by
  have := b.param_mem p
  unfold Bank.count
  omega

/-- R5: M is 3200 or 3840. -/
theorem Bank.modulus_cases (b : Bank) : b.modulus = 3200 ∨ b.modulus = 3840 := by unfold Bank.modulus; split <;> simp

/-- R56: W is 32 or 64. -/
theorem Bank.windowLength_cases (b : Bank) : b.windowLength = 32 ∨ b.windowLength = 64 := by
  unfold Bank.windowLength; split <;> simp

end Sys2Proof.Machine
end

