-- ==== Sys2Proof/Laws/Banks.lean ====
section
/-! SUPPORT. Reading after writing: an entry of a bank reads as the words last written to it, and a write leaves every
other word alone (R116, R118). -/

namespace Sys2Proof.Machine

theorem putWords_outside {n : Nat} (v : Vector Word n) (k : Nat) (ws : List Word) (i : Nat) (hi : i < n)
    (h : i < k ∨ k + ws.length ≤ i) : (putWords v k ws)[i] = v[i] := by
  induction ws generalizing v k with
  | nil => rfl
  | cons w ws ih =>
    rw [putWords, ih _ _ (by simp only [List.length_cons] at h; omega), Vector.getElem_setIfInBounds]
    rw [if_neg (by simp only [List.length_cons] at h; omega)]

theorem putWords_inside {n : Nat} (v : Vector Word n) (k : Nat) (ws : List Word) (j : Nat) (hj : j < ws.length)
    (h : k + j < n) : (putWords v k ws)[k + j] = ws[j] := by
  induction ws generalizing v k j with
  | nil => simp at hj
  | cons w ws ih =>
    cases j with
    | zero =>
      rw [putWords]
      have := putWords_outside (v.setIfInBounds k w) (k + 1) ws k (by omega) (by omega)
      simpa using this
    | succ j =>
      have := ih (v.setIfInBounds k w) (k + 1) j (by simpa using hj) (by omega)
      simpa [putWords, Nat.add_assoc, Nat.add_comm 1 j] using this

/-- The words of a table as a list of its length. -/
theorem Bank.words_length (b : Bank) (t : TableId) : (b.words t).length = t.entries * t.entryWords := by
  cases t <;> simp [Bank.words, TableId.entries, TableId.entryWords]

/-- R118: a write to one table leaves the words of every other table alone. -/
theorem Bank.words_setEntry_of_ne (b : Bank) (t u : TableId) (i : Nat) (ws : List Word) (h : u ≠ t) :
    (b.setEntry t i ws).words u = b.words u := by
  cases t <;> cases u <;> first | rfl | exact absurd rfl h

theorem words_setEntry_aux {n : Nat} (v : Vector Word n) (k : Nat) (ws : List Word) (i : Nat) (hi : i < n) :
    (putWords v k ws).toList[i]'(by simpa using hi) = if k ≤ i ∧ i < k + ws.length then ws.getD (i - k) 0
      else v.toList[i]'(by simpa using hi) := by
  simp only [Vector.getElem_toList]
  split
  · next h =>
    have := putWords_inside v k ws (i - k) (by omega) (by omega)
    rw [List.getD_eq_getElem _ _ (by omega), ← this]
    congr 1; omega
  · next h => exact putWords_outside v k ws i hi (by omega)

/-- R118: the words of the table written, word by word. -/
theorem Bank.words_setEntry (b : Bank) (t : TableId) (i : Nat) (ws : List Word) (j : Nat)
    (hj : j < t.entries * t.entryWords) :
    ((b.setEntry t i ws).words t).getD j 0 =
      if i * t.entryWords ≤ j ∧ j < i * t.entryWords + ws.length then ws.getD (j - i * t.entryWords) 0
      else (b.words t).getD j 0 := by
  have h1 : j < ((b.setEntry t i ws).words t).length := by rw [Bank.words_length]; exact hj
  have h2 : j < (b.words t).length := by rw [Bank.words_length]; exact hj
  rw [List.getD_eq_getElem _ _ h1, List.getD_eq_getElem _ _ h2]
  cases t <;>
    exact words_setEntry_aux _ _ _ _ (by simpa [TableId.entries, TableId.entryWords] using hj)

/-- R118, R120: the entry written reads back as it was written. -/
theorem Bank.entry_setEntry (b : Bank) (t : TableId) (i : Nat) (ws : List Word) (hi : i < t.entries)
    (hw : ws.length = t.entryWords) : (b.setEntry t i ws).entry t i = ws := by
  have hb : i * t.entryWords + t.entryWords ≤ t.entries * t.entryWords := by
    rw [← Nat.succ_mul]; exact Nat.mul_le_mul_right _ hi
  have hl := (b.setEntry t i ws).words_length t
  apply List.ext_getElem
  · simp only [Bank.entry, List.length_take, List.length_drop]; omega
  · intro j h1 h2
    have := b.words_setEntry t i ws (i * t.entryWords + j) (by omega)
    rw [if_pos (by omega), List.getD_eq_getElem _ _ (by omega), List.getD_eq_getElem _ _ (by omega)] at this
    simpa [Bank.entry] using this

/-- R116: the active bank is not the shadow, so writing the shadow leaves the active bank alone. -/
@[simp] theorem TableStore.activeBank_setShadow (t : TableStore) (b : Bank) : (t.setShadow b).activeBank = t.activeBank := by
  by_cases h : t.active = 0 <;> simp [TableStore.setShadow, TableStore.activeBank, TableStore.bank, h]

@[simp] theorem TableStore.shadowBank_setShadow (t : TableStore) (b : Bank) : (t.setShadow b).shadowBank = b := by
  by_cases h : t.active = 0 <;>
    simp [TableStore.setShadow, TableStore.shadowBank, TableStore.bank, TableStore.shadowNumber, h]

end Sys2Proof.Machine
end

