-- ==== Sys2Proof/Laws/State.lean ====
section
/-! SUPPORT. One lemma for each field of State under each of its updates (Machine/Ops.lean), true by rfl. -/

namespace Sys2Proof.Machine

variable (s : State)

/-! ### After `setPhase` -/

@[simp] theorem State.setPhase_pending (x : RunPhase) : (s.setPhase x).pending = s.pending := rfl
@[simp] theorem State.setPhase_phase (x : RunPhase) : (s.setPhase x).phase = x := rfl
@[simp] theorem State.setPhase_pins (x : RunPhase) : (s.setPhase x).pins = s.pins := rfl
@[simp] theorem State.setPhase_linkMSynced (x : RunPhase) : (s.setPhase x).linkMSynced = s.linkMSynced := rfl
@[simp] theorem State.setPhase_intake (x : RunPhase) : (s.setPhase x).intake = s.intake := rfl
@[simp] theorem State.setPhase_ring (x : RunPhase) : (s.setPhase x).ring = s.ring := rfl
@[simp] theorem State.setPhase_tracker (x : RunPhase) : (s.setPhase x).tracker = s.tracker := rfl
@[simp] theorem State.setPhase_transform (x : RunPhase) : (s.setPhase x).transform = s.transform := rfl
@[simp] theorem State.setPhase_composer (x : RunPhase) : (s.setPhase x).composer = s.composer := rfl
@[simp] theorem State.setPhase_linkC (x : RunPhase) : (s.setPhase x).linkC = s.linkC := rfl
@[simp] theorem State.setPhase_store (x : RunPhase) : (s.setPhase x).store = s.store := rfl
@[simp] theorem State.setPhase_supervision (x : RunPhase) : (s.setPhase x).supervision = s.supervision := rfl
@[simp] theorem State.setPhase_engine (x : RunPhase) : (s.setPhase x).engine = s.engine := rfl
@[simp] theorem State.setPhase_events (x : RunPhase) : (s.setPhase x).events = s.events := rfl
@[simp] theorem State.setPhase_health (x : RunPhase) : (s.setPhase x).health = s.health := rfl
@[simp] theorem State.setPhase_linkMOut (x : RunPhase) : (s.setPhase x).linkMOut = s.linkMOut := rfl
@[simp] theorem State.setPhase_linkCOut (x : RunPhase) : (s.setPhase x).linkCOut = s.linkCOut := rfl
@[simp] theorem State.setPhase_picks (x : RunPhase) : (s.setPhase x).picks = s.picks := rfl

/-! ### After `setPins` -/

@[simp] theorem State.setPins_pending (x : Pins) : (s.setPins x).pending = s.pending := rfl
@[simp] theorem State.setPins_phase (x : Pins) : (s.setPins x).phase = s.phase := rfl
@[simp] theorem State.setPins_pins (x : Pins) : (s.setPins x).pins = x := rfl
@[simp] theorem State.setPins_linkMSynced (x : Pins) : (s.setPins x).linkMSynced = s.linkMSynced := rfl
@[simp] theorem State.setPins_intake (x : Pins) : (s.setPins x).intake = s.intake := rfl
@[simp] theorem State.setPins_ring (x : Pins) : (s.setPins x).ring = s.ring := rfl
@[simp] theorem State.setPins_tracker (x : Pins) : (s.setPins x).tracker = s.tracker := rfl
@[simp] theorem State.setPins_transform (x : Pins) : (s.setPins x).transform = s.transform := rfl
@[simp] theorem State.setPins_composer (x : Pins) : (s.setPins x).composer = s.composer := rfl
@[simp] theorem State.setPins_linkC (x : Pins) : (s.setPins x).linkC = s.linkC := rfl
@[simp] theorem State.setPins_store (x : Pins) : (s.setPins x).store = s.store := rfl
@[simp] theorem State.setPins_supervision (x : Pins) : (s.setPins x).supervision = s.supervision := rfl
@[simp] theorem State.setPins_engine (x : Pins) : (s.setPins x).engine = s.engine := rfl
@[simp] theorem State.setPins_events (x : Pins) : (s.setPins x).events = s.events := rfl
@[simp] theorem State.setPins_health (x : Pins) : (s.setPins x).health = s.health := rfl
@[simp] theorem State.setPins_linkMOut (x : Pins) : (s.setPins x).linkMOut = s.linkMOut := rfl
@[simp] theorem State.setPins_linkCOut (x : Pins) : (s.setPins x).linkCOut = s.linkCOut := rfl
@[simp] theorem State.setPins_picks (x : Pins) : (s.setPins x).picks = s.picks := rfl

/-! ### After `setIntake` -/

@[simp] theorem State.setIntake_pending (x : Intake) : (s.setIntake x).pending = s.pending := rfl
@[simp] theorem State.setIntake_phase (x : Intake) : (s.setIntake x).phase = s.phase := rfl
@[simp] theorem State.setIntake_pins (x : Intake) : (s.setIntake x).pins = s.pins := rfl
@[simp] theorem State.setIntake_linkMSynced (x : Intake) : (s.setIntake x).linkMSynced = s.linkMSynced := rfl
@[simp] theorem State.setIntake_intake (x : Intake) : (s.setIntake x).intake = x := rfl
@[simp] theorem State.setIntake_ring (x : Intake) : (s.setIntake x).ring = s.ring := rfl
@[simp] theorem State.setIntake_tracker (x : Intake) : (s.setIntake x).tracker = s.tracker := rfl
@[simp] theorem State.setIntake_transform (x : Intake) : (s.setIntake x).transform = s.transform := rfl
@[simp] theorem State.setIntake_composer (x : Intake) : (s.setIntake x).composer = s.composer := rfl
@[simp] theorem State.setIntake_linkC (x : Intake) : (s.setIntake x).linkC = s.linkC := rfl
@[simp] theorem State.setIntake_store (x : Intake) : (s.setIntake x).store = s.store := rfl
@[simp] theorem State.setIntake_supervision (x : Intake) : (s.setIntake x).supervision = s.supervision := rfl
@[simp] theorem State.setIntake_engine (x : Intake) : (s.setIntake x).engine = s.engine := rfl
@[simp] theorem State.setIntake_events (x : Intake) : (s.setIntake x).events = s.events := rfl
@[simp] theorem State.setIntake_health (x : Intake) : (s.setIntake x).health = s.health := rfl
@[simp] theorem State.setIntake_linkMOut (x : Intake) : (s.setIntake x).linkMOut = s.linkMOut := rfl
@[simp] theorem State.setIntake_linkCOut (x : Intake) : (s.setIntake x).linkCOut = s.linkCOut := rfl
@[simp] theorem State.setIntake_picks (x : Intake) : (s.setIntake x).picks = s.picks := rfl

/-! ### After `setRing` -/

@[simp] theorem State.setRing_pending (x : Ring) : (s.setRing x).pending = s.pending := rfl
@[simp] theorem State.setRing_phase (x : Ring) : (s.setRing x).phase = s.phase := rfl
@[simp] theorem State.setRing_pins (x : Ring) : (s.setRing x).pins = s.pins := rfl
@[simp] theorem State.setRing_linkMSynced (x : Ring) : (s.setRing x).linkMSynced = s.linkMSynced := rfl
@[simp] theorem State.setRing_intake (x : Ring) : (s.setRing x).intake = s.intake := rfl
@[simp] theorem State.setRing_ring (x : Ring) : (s.setRing x).ring = x := rfl
@[simp] theorem State.setRing_tracker (x : Ring) : (s.setRing x).tracker = s.tracker := rfl
@[simp] theorem State.setRing_transform (x : Ring) : (s.setRing x).transform = s.transform := rfl
@[simp] theorem State.setRing_composer (x : Ring) : (s.setRing x).composer = s.composer := rfl
@[simp] theorem State.setRing_linkC (x : Ring) : (s.setRing x).linkC = s.linkC := rfl
@[simp] theorem State.setRing_store (x : Ring) : (s.setRing x).store = s.store := rfl
@[simp] theorem State.setRing_supervision (x : Ring) : (s.setRing x).supervision = s.supervision := rfl
@[simp] theorem State.setRing_engine (x : Ring) : (s.setRing x).engine = s.engine := rfl
@[simp] theorem State.setRing_events (x : Ring) : (s.setRing x).events = s.events := rfl
@[simp] theorem State.setRing_health (x : Ring) : (s.setRing x).health = s.health := rfl
@[simp] theorem State.setRing_linkMOut (x : Ring) : (s.setRing x).linkMOut = s.linkMOut := rfl
@[simp] theorem State.setRing_linkCOut (x : Ring) : (s.setRing x).linkCOut = s.linkCOut := rfl
@[simp] theorem State.setRing_picks (x : Ring) : (s.setRing x).picks = s.picks := rfl

/-! ### After `setTracker` -/

@[simp] theorem State.setTracker_pending (x : Tracker) : (s.setTracker x).pending = s.pending := rfl
@[simp] theorem State.setTracker_phase (x : Tracker) : (s.setTracker x).phase = s.phase := rfl
@[simp] theorem State.setTracker_pins (x : Tracker) : (s.setTracker x).pins = s.pins := rfl
@[simp] theorem State.setTracker_linkMSynced (x : Tracker) : (s.setTracker x).linkMSynced = s.linkMSynced := rfl
@[simp] theorem State.setTracker_intake (x : Tracker) : (s.setTracker x).intake = s.intake := rfl
@[simp] theorem State.setTracker_ring (x : Tracker) : (s.setTracker x).ring = s.ring := rfl
@[simp] theorem State.setTracker_tracker (x : Tracker) : (s.setTracker x).tracker = x := rfl
@[simp] theorem State.setTracker_transform (x : Tracker) : (s.setTracker x).transform = s.transform := rfl
@[simp] theorem State.setTracker_composer (x : Tracker) : (s.setTracker x).composer = s.composer := rfl
@[simp] theorem State.setTracker_linkC (x : Tracker) : (s.setTracker x).linkC = s.linkC := rfl
@[simp] theorem State.setTracker_store (x : Tracker) : (s.setTracker x).store = s.store := rfl
@[simp] theorem State.setTracker_supervision (x : Tracker) : (s.setTracker x).supervision = s.supervision := rfl
@[simp] theorem State.setTracker_engine (x : Tracker) : (s.setTracker x).engine = s.engine := rfl
@[simp] theorem State.setTracker_events (x : Tracker) : (s.setTracker x).events = s.events := rfl
@[simp] theorem State.setTracker_health (x : Tracker) : (s.setTracker x).health = s.health := rfl
@[simp] theorem State.setTracker_linkMOut (x : Tracker) : (s.setTracker x).linkMOut = s.linkMOut := rfl
@[simp] theorem State.setTracker_linkCOut (x : Tracker) : (s.setTracker x).linkCOut = s.linkCOut := rfl
@[simp] theorem State.setTracker_picks (x : Tracker) : (s.setTracker x).picks = s.picks := rfl

/-! ### After `setTransform` -/

@[simp] theorem State.setTransform_pending (x : Transform) : (s.setTransform x).pending = s.pending := rfl
@[simp] theorem State.setTransform_phase (x : Transform) : (s.setTransform x).phase = s.phase := rfl
@[simp] theorem State.setTransform_pins (x : Transform) : (s.setTransform x).pins = s.pins := rfl
@[simp] theorem State.setTransform_linkMSynced (x : Transform) : (s.setTransform x).linkMSynced = s.linkMSynced := rfl
@[simp] theorem State.setTransform_intake (x : Transform) : (s.setTransform x).intake = s.intake := rfl
@[simp] theorem State.setTransform_ring (x : Transform) : (s.setTransform x).ring = s.ring := rfl
@[simp] theorem State.setTransform_tracker (x : Transform) : (s.setTransform x).tracker = s.tracker := rfl
@[simp] theorem State.setTransform_transform (x : Transform) : (s.setTransform x).transform = x := rfl
@[simp] theorem State.setTransform_composer (x : Transform) : (s.setTransform x).composer = s.composer := rfl
@[simp] theorem State.setTransform_linkC (x : Transform) : (s.setTransform x).linkC = s.linkC := rfl
@[simp] theorem State.setTransform_store (x : Transform) : (s.setTransform x).store = s.store := rfl
@[simp] theorem State.setTransform_supervision (x : Transform) : (s.setTransform x).supervision = s.supervision := rfl
@[simp] theorem State.setTransform_engine (x : Transform) : (s.setTransform x).engine = s.engine := rfl
@[simp] theorem State.setTransform_events (x : Transform) : (s.setTransform x).events = s.events := rfl
@[simp] theorem State.setTransform_health (x : Transform) : (s.setTransform x).health = s.health := rfl
@[simp] theorem State.setTransform_linkMOut (x : Transform) : (s.setTransform x).linkMOut = s.linkMOut := rfl
@[simp] theorem State.setTransform_linkCOut (x : Transform) : (s.setTransform x).linkCOut = s.linkCOut := rfl
@[simp] theorem State.setTransform_picks (x : Transform) : (s.setTransform x).picks = s.picks := rfl

/-! ### After `setComposer` -/

@[simp] theorem State.setComposer_pending (x : Composer) : (s.setComposer x).pending = s.pending := rfl
@[simp] theorem State.setComposer_phase (x : Composer) : (s.setComposer x).phase = s.phase := rfl
@[simp] theorem State.setComposer_pins (x : Composer) : (s.setComposer x).pins = s.pins := rfl
@[simp] theorem State.setComposer_linkMSynced (x : Composer) : (s.setComposer x).linkMSynced = s.linkMSynced := rfl
@[simp] theorem State.setComposer_intake (x : Composer) : (s.setComposer x).intake = s.intake := rfl
@[simp] theorem State.setComposer_ring (x : Composer) : (s.setComposer x).ring = s.ring := rfl
@[simp] theorem State.setComposer_tracker (x : Composer) : (s.setComposer x).tracker = s.tracker := rfl
@[simp] theorem State.setComposer_transform (x : Composer) : (s.setComposer x).transform = s.transform := rfl
@[simp] theorem State.setComposer_composer (x : Composer) : (s.setComposer x).composer = x := rfl
@[simp] theorem State.setComposer_linkC (x : Composer) : (s.setComposer x).linkC = s.linkC := rfl
@[simp] theorem State.setComposer_store (x : Composer) : (s.setComposer x).store = s.store := rfl
@[simp] theorem State.setComposer_supervision (x : Composer) : (s.setComposer x).supervision = s.supervision := rfl
@[simp] theorem State.setComposer_engine (x : Composer) : (s.setComposer x).engine = s.engine := rfl
@[simp] theorem State.setComposer_events (x : Composer) : (s.setComposer x).events = s.events := rfl
@[simp] theorem State.setComposer_health (x : Composer) : (s.setComposer x).health = s.health := rfl
@[simp] theorem State.setComposer_linkMOut (x : Composer) : (s.setComposer x).linkMOut = s.linkMOut := rfl
@[simp] theorem State.setComposer_linkCOut (x : Composer) : (s.setComposer x).linkCOut = s.linkCOut := rfl
@[simp] theorem State.setComposer_picks (x : Composer) : (s.setComposer x).picks = s.picks := rfl

/-! ### After `setLinkC` -/

@[simp] theorem State.setLinkC_pending (x : LinkC) : (s.setLinkC x).pending = s.pending := rfl
@[simp] theorem State.setLinkC_phase (x : LinkC) : (s.setLinkC x).phase = s.phase := rfl
@[simp] theorem State.setLinkC_pins (x : LinkC) : (s.setLinkC x).pins = s.pins := rfl
@[simp] theorem State.setLinkC_linkMSynced (x : LinkC) : (s.setLinkC x).linkMSynced = s.linkMSynced := rfl
@[simp] theorem State.setLinkC_intake (x : LinkC) : (s.setLinkC x).intake = s.intake := rfl
@[simp] theorem State.setLinkC_ring (x : LinkC) : (s.setLinkC x).ring = s.ring := rfl
@[simp] theorem State.setLinkC_tracker (x : LinkC) : (s.setLinkC x).tracker = s.tracker := rfl
@[simp] theorem State.setLinkC_transform (x : LinkC) : (s.setLinkC x).transform = s.transform := rfl
@[simp] theorem State.setLinkC_composer (x : LinkC) : (s.setLinkC x).composer = s.composer := rfl
@[simp] theorem State.setLinkC_linkC (x : LinkC) : (s.setLinkC x).linkC = x := rfl
@[simp] theorem State.setLinkC_store (x : LinkC) : (s.setLinkC x).store = s.store := rfl
@[simp] theorem State.setLinkC_supervision (x : LinkC) : (s.setLinkC x).supervision = s.supervision := rfl
@[simp] theorem State.setLinkC_engine (x : LinkC) : (s.setLinkC x).engine = s.engine := rfl
@[simp] theorem State.setLinkC_events (x : LinkC) : (s.setLinkC x).events = s.events := rfl
@[simp] theorem State.setLinkC_health (x : LinkC) : (s.setLinkC x).health = s.health := rfl
@[simp] theorem State.setLinkC_linkMOut (x : LinkC) : (s.setLinkC x).linkMOut = s.linkMOut := rfl
@[simp] theorem State.setLinkC_linkCOut (x : LinkC) : (s.setLinkC x).linkCOut = s.linkCOut := rfl
@[simp] theorem State.setLinkC_picks (x : LinkC) : (s.setLinkC x).picks = s.picks := rfl

/-! ### After `setStore` -/

@[simp] theorem State.setStore_pending (x : TableStore) : (s.setStore x).pending = s.pending := rfl
@[simp] theorem State.setStore_phase (x : TableStore) : (s.setStore x).phase = s.phase := rfl
@[simp] theorem State.setStore_pins (x : TableStore) : (s.setStore x).pins = s.pins := rfl
@[simp] theorem State.setStore_linkMSynced (x : TableStore) : (s.setStore x).linkMSynced = s.linkMSynced := rfl
@[simp] theorem State.setStore_intake (x : TableStore) : (s.setStore x).intake = s.intake := rfl
@[simp] theorem State.setStore_ring (x : TableStore) : (s.setStore x).ring = s.ring := rfl
@[simp] theorem State.setStore_tracker (x : TableStore) : (s.setStore x).tracker = s.tracker := rfl
@[simp] theorem State.setStore_transform (x : TableStore) : (s.setStore x).transform = s.transform := rfl
@[simp] theorem State.setStore_composer (x : TableStore) : (s.setStore x).composer = s.composer := rfl
@[simp] theorem State.setStore_linkC (x : TableStore) : (s.setStore x).linkC = s.linkC := rfl
@[simp] theorem State.setStore_store (x : TableStore) : (s.setStore x).store = x := rfl
@[simp] theorem State.setStore_supervision (x : TableStore) : (s.setStore x).supervision = s.supervision := rfl
@[simp] theorem State.setStore_engine (x : TableStore) : (s.setStore x).engine = s.engine := rfl
@[simp] theorem State.setStore_events (x : TableStore) : (s.setStore x).events = s.events := rfl
@[simp] theorem State.setStore_health (x : TableStore) : (s.setStore x).health = s.health := rfl
@[simp] theorem State.setStore_linkMOut (x : TableStore) : (s.setStore x).linkMOut = s.linkMOut := rfl
@[simp] theorem State.setStore_linkCOut (x : TableStore) : (s.setStore x).linkCOut = s.linkCOut := rfl
@[simp] theorem State.setStore_picks (x : TableStore) : (s.setStore x).picks = s.picks := rfl

/-! ### After `setSupervision` -/

@[simp] theorem State.setSupervision_pending (x : Supervision) : (s.setSupervision x).pending = s.pending := rfl
@[simp] theorem State.setSupervision_phase (x : Supervision) : (s.setSupervision x).phase = s.phase := rfl
@[simp] theorem State.setSupervision_pins (x : Supervision) : (s.setSupervision x).pins = s.pins := rfl
@[simp] theorem State.setSupervision_linkMSynced (x : Supervision) : (s.setSupervision x).linkMSynced = s.linkMSynced := rfl
@[simp] theorem State.setSupervision_intake (x : Supervision) : (s.setSupervision x).intake = s.intake := rfl
@[simp] theorem State.setSupervision_ring (x : Supervision) : (s.setSupervision x).ring = s.ring := rfl
@[simp] theorem State.setSupervision_tracker (x : Supervision) : (s.setSupervision x).tracker = s.tracker := rfl
@[simp] theorem State.setSupervision_transform (x : Supervision) : (s.setSupervision x).transform = s.transform := rfl
@[simp] theorem State.setSupervision_composer (x : Supervision) : (s.setSupervision x).composer = s.composer := rfl
@[simp] theorem State.setSupervision_linkC (x : Supervision) : (s.setSupervision x).linkC = s.linkC := rfl
@[simp] theorem State.setSupervision_store (x : Supervision) : (s.setSupervision x).store = s.store := rfl
@[simp] theorem State.setSupervision_supervision (x : Supervision) : (s.setSupervision x).supervision = x := rfl
@[simp] theorem State.setSupervision_engine (x : Supervision) : (s.setSupervision x).engine = s.engine := rfl
@[simp] theorem State.setSupervision_events (x : Supervision) : (s.setSupervision x).events = s.events := rfl
@[simp] theorem State.setSupervision_health (x : Supervision) : (s.setSupervision x).health = s.health := rfl
@[simp] theorem State.setSupervision_linkMOut (x : Supervision) : (s.setSupervision x).linkMOut = s.linkMOut := rfl
@[simp] theorem State.setSupervision_linkCOut (x : Supervision) : (s.setSupervision x).linkCOut = s.linkCOut := rfl
@[simp] theorem State.setSupervision_picks (x : Supervision) : (s.setSupervision x).picks = s.picks := rfl

/-! ### After `setEngine` -/

@[simp] theorem State.setEngine_pending (x : Engine) : (s.setEngine x).pending = s.pending := rfl
@[simp] theorem State.setEngine_phase (x : Engine) : (s.setEngine x).phase = s.phase := rfl
@[simp] theorem State.setEngine_pins (x : Engine) : (s.setEngine x).pins = s.pins := rfl
@[simp] theorem State.setEngine_linkMSynced (x : Engine) : (s.setEngine x).linkMSynced = s.linkMSynced := rfl
@[simp] theorem State.setEngine_intake (x : Engine) : (s.setEngine x).intake = s.intake := rfl
@[simp] theorem State.setEngine_ring (x : Engine) : (s.setEngine x).ring = s.ring := rfl
@[simp] theorem State.setEngine_tracker (x : Engine) : (s.setEngine x).tracker = s.tracker := rfl
@[simp] theorem State.setEngine_transform (x : Engine) : (s.setEngine x).transform = s.transform := rfl
@[simp] theorem State.setEngine_composer (x : Engine) : (s.setEngine x).composer = s.composer := rfl
@[simp] theorem State.setEngine_linkC (x : Engine) : (s.setEngine x).linkC = s.linkC := rfl
@[simp] theorem State.setEngine_store (x : Engine) : (s.setEngine x).store = s.store := rfl
@[simp] theorem State.setEngine_supervision (x : Engine) : (s.setEngine x).supervision = s.supervision := rfl
@[simp] theorem State.setEngine_engine (x : Engine) : (s.setEngine x).engine = x := rfl
@[simp] theorem State.setEngine_events (x : Engine) : (s.setEngine x).events = s.events := rfl
@[simp] theorem State.setEngine_health (x : Engine) : (s.setEngine x).health = s.health := rfl
@[simp] theorem State.setEngine_linkMOut (x : Engine) : (s.setEngine x).linkMOut = s.linkMOut := rfl
@[simp] theorem State.setEngine_linkCOut (x : Engine) : (s.setEngine x).linkCOut = s.linkCOut := rfl
@[simp] theorem State.setEngine_picks (x : Engine) : (s.setEngine x).picks = s.picks := rfl

/-! ### After `setHealth` -/

@[simp] theorem State.setHealth_pending (x : Health) : (s.setHealth x).pending = s.pending := rfl
@[simp] theorem State.setHealth_phase (x : Health) : (s.setHealth x).phase = s.phase := rfl
@[simp] theorem State.setHealth_pins (x : Health) : (s.setHealth x).pins = s.pins := rfl
@[simp] theorem State.setHealth_linkMSynced (x : Health) : (s.setHealth x).linkMSynced = s.linkMSynced := rfl
@[simp] theorem State.setHealth_intake (x : Health) : (s.setHealth x).intake = s.intake := rfl
@[simp] theorem State.setHealth_ring (x : Health) : (s.setHealth x).ring = s.ring := rfl
@[simp] theorem State.setHealth_tracker (x : Health) : (s.setHealth x).tracker = s.tracker := rfl
@[simp] theorem State.setHealth_transform (x : Health) : (s.setHealth x).transform = s.transform := rfl
@[simp] theorem State.setHealth_composer (x : Health) : (s.setHealth x).composer = s.composer := rfl
@[simp] theorem State.setHealth_linkC (x : Health) : (s.setHealth x).linkC = s.linkC := rfl
@[simp] theorem State.setHealth_store (x : Health) : (s.setHealth x).store = s.store := rfl
@[simp] theorem State.setHealth_supervision (x : Health) : (s.setHealth x).supervision = s.supervision := rfl
@[simp] theorem State.setHealth_engine (x : Health) : (s.setHealth x).engine = s.engine := rfl
@[simp] theorem State.setHealth_events (x : Health) : (s.setHealth x).events = s.events := rfl
@[simp] theorem State.setHealth_health (x : Health) : (s.setHealth x).health = x := rfl
@[simp] theorem State.setHealth_linkMOut (x : Health) : (s.setHealth x).linkMOut = s.linkMOut := rfl
@[simp] theorem State.setHealth_linkCOut (x : Health) : (s.setHealth x).linkCOut = s.linkCOut := rfl
@[simp] theorem State.setHealth_picks (x : Health) : (s.setHealth x).picks = s.picks := rfl

/-! ### After `setEvents` -/

@[simp] theorem State.setEvents_pending (x : EventUnit) (n : Nat) : (s.setEvents x n).pending = s.pending := rfl
@[simp] theorem State.setEvents_phase (x : EventUnit) (n : Nat) : (s.setEvents x n).phase = s.phase := rfl
@[simp] theorem State.setEvents_pins (x : EventUnit) (n : Nat) : (s.setEvents x n).pins = s.pins := rfl
@[simp] theorem State.setEvents_linkMSynced (x : EventUnit) (n : Nat) : (s.setEvents x n).linkMSynced = s.linkMSynced := rfl
@[simp] theorem State.setEvents_intake (x : EventUnit) (n : Nat) : (s.setEvents x n).intake = s.intake := rfl
@[simp] theorem State.setEvents_ring (x : EventUnit) (n : Nat) : (s.setEvents x n).ring = s.ring := rfl
@[simp] theorem State.setEvents_tracker (x : EventUnit) (n : Nat) : (s.setEvents x n).tracker = s.tracker := rfl
@[simp] theorem State.setEvents_transform (x : EventUnit) (n : Nat) : (s.setEvents x n).transform = s.transform := rfl
@[simp] theorem State.setEvents_composer (x : EventUnit) (n : Nat) : (s.setEvents x n).composer = s.composer := rfl
@[simp] theorem State.setEvents_linkC (x : EventUnit) (n : Nat) : (s.setEvents x n).linkC = s.linkC := rfl
@[simp] theorem State.setEvents_store (x : EventUnit) (n : Nat) : (s.setEvents x n).store = s.store := rfl
@[simp] theorem State.setEvents_supervision (x : EventUnit) (n : Nat) : (s.setEvents x n).supervision = s.supervision := rfl
@[simp] theorem State.setEvents_engine (x : EventUnit) (n : Nat) : (s.setEvents x n).engine = s.engine := rfl
@[simp] theorem State.setEvents_events (x : EventUnit) (n : Nat) : (s.setEvents x n).events = x := rfl
@[simp] theorem State.setEvents_health (x : EventUnit) (n : Nat) : (s.setEvents x n).health = s.health := rfl
@[simp] theorem State.setEvents_linkMOut (x : EventUnit) (n : Nat) : (s.setEvents x n).linkMOut = s.linkMOut := rfl
@[simp] theorem State.setEvents_linkCOut (x : EventUnit) (n : Nat) : (s.setEvents x n).linkCOut = s.linkCOut := rfl
@[simp] theorem State.setEvents_picks (x : EventUnit) (n : Nat) : (s.setEvents x n).picks = n := rfl

/-! ### After `sendM` -/

@[simp] theorem State.sendM_pending (x : List Word) : (s.sendM x).pending = s.pending := rfl
@[simp] theorem State.sendM_phase (x : List Word) : (s.sendM x).phase = s.phase := rfl
@[simp] theorem State.sendM_pins (x : List Word) : (s.sendM x).pins = s.pins := rfl
@[simp] theorem State.sendM_linkMSynced (x : List Word) : (s.sendM x).linkMSynced = s.linkMSynced := rfl
@[simp] theorem State.sendM_intake (x : List Word) : (s.sendM x).intake = s.intake := rfl
@[simp] theorem State.sendM_ring (x : List Word) : (s.sendM x).ring = s.ring := rfl
@[simp] theorem State.sendM_tracker (x : List Word) : (s.sendM x).tracker = s.tracker := rfl
@[simp] theorem State.sendM_transform (x : List Word) : (s.sendM x).transform = s.transform := rfl
@[simp] theorem State.sendM_composer (x : List Word) : (s.sendM x).composer = s.composer := rfl
@[simp] theorem State.sendM_linkC (x : List Word) : (s.sendM x).linkC = s.linkC := rfl
@[simp] theorem State.sendM_store (x : List Word) : (s.sendM x).store = s.store := rfl
@[simp] theorem State.sendM_supervision (x : List Word) : (s.sendM x).supervision = s.supervision := rfl
@[simp] theorem State.sendM_engine (x : List Word) : (s.sendM x).engine = s.engine := rfl
@[simp] theorem State.sendM_events (x : List Word) : (s.sendM x).events = s.events := rfl
@[simp] theorem State.sendM_health (x : List Word) : (s.sendM x).health = s.health := rfl
@[simp] theorem State.sendM_linkMOut (x : List Word) : (s.sendM x).linkMOut = s.linkMOut.hand x := rfl
@[simp] theorem State.sendM_linkCOut (x : List Word) : (s.sendM x).linkCOut = s.linkCOut := rfl
@[simp] theorem State.sendM_picks (x : List Word) : (s.sendM x).picks = s.picks := rfl

/-! ### After `sendC` -/

@[simp] theorem State.sendC_pending (x : List Word) : (s.sendC x).pending = s.pending := rfl
@[simp] theorem State.sendC_phase (x : List Word) : (s.sendC x).phase = s.phase := rfl
@[simp] theorem State.sendC_pins (x : List Word) : (s.sendC x).pins = s.pins := rfl
@[simp] theorem State.sendC_linkMSynced (x : List Word) : (s.sendC x).linkMSynced = s.linkMSynced := rfl
@[simp] theorem State.sendC_intake (x : List Word) : (s.sendC x).intake = s.intake := rfl
@[simp] theorem State.sendC_ring (x : List Word) : (s.sendC x).ring = s.ring := rfl
@[simp] theorem State.sendC_tracker (x : List Word) : (s.sendC x).tracker = s.tracker := rfl
@[simp] theorem State.sendC_transform (x : List Word) : (s.sendC x).transform = s.transform := rfl
@[simp] theorem State.sendC_composer (x : List Word) : (s.sendC x).composer = s.composer := rfl
@[simp] theorem State.sendC_linkC (x : List Word) : (s.sendC x).linkC = s.linkC := rfl
@[simp] theorem State.sendC_store (x : List Word) : (s.sendC x).store = s.store := rfl
@[simp] theorem State.sendC_supervision (x : List Word) : (s.sendC x).supervision = s.supervision := rfl
@[simp] theorem State.sendC_engine (x : List Word) : (s.sendC x).engine = s.engine := rfl
@[simp] theorem State.sendC_events (x : List Word) : (s.sendC x).events = s.events := rfl
@[simp] theorem State.sendC_health (x : List Word) : (s.sendC x).health = s.health := rfl
@[simp] theorem State.sendC_linkMOut (x : List Word) : (s.sendC x).linkMOut = s.linkMOut := rfl
@[simp] theorem State.sendC_linkCOut (x : List Word) : (s.sendC x).linkCOut = s.linkCOut.hand x := rfl
@[simp] theorem State.sendC_picks (x : List Word) : (s.sendC x).picks = s.picks := rfl

/-! ### After `leaveC` and `cutSending` -/

@[simp] theorem State.leaveC_pending : s.leaveC.pending = s.pending := rfl
@[simp] theorem State.leaveC_phase : s.leaveC.phase = s.phase := rfl
@[simp] theorem State.leaveC_pins : s.leaveC.pins = s.pins := rfl
@[simp] theorem State.leaveC_linkMSynced : s.leaveC.linkMSynced = s.linkMSynced := rfl
@[simp] theorem State.leaveC_intake : s.leaveC.intake = s.intake := rfl
@[simp] theorem State.leaveC_ring : s.leaveC.ring = s.ring := rfl
@[simp] theorem State.leaveC_tracker : s.leaveC.tracker = s.tracker := rfl
@[simp] theorem State.leaveC_transform : s.leaveC.transform = s.transform := rfl
@[simp] theorem State.leaveC_composer : s.leaveC.composer = s.composer := rfl
@[simp] theorem State.leaveC_linkC : s.leaveC.linkC = s.linkC := rfl
@[simp] theorem State.leaveC_store : s.leaveC.store = s.store := rfl
@[simp] theorem State.leaveC_supervision : s.leaveC.supervision = s.supervision := rfl
@[simp] theorem State.leaveC_engine : s.leaveC.engine = s.engine := rfl
@[simp] theorem State.leaveC_events : s.leaveC.events = s.events := rfl
@[simp] theorem State.leaveC_health : s.leaveC.health = s.health := rfl
@[simp] theorem State.leaveC_linkMOut : s.leaveC.linkMOut = s.linkMOut := rfl
@[simp] theorem State.leaveC_linkCOut : s.leaveC.linkCOut = s.linkCOut.leave := rfl
@[simp] theorem State.leaveC_picks : s.leaveC.picks = s.picks := rfl

@[simp] theorem State.cutSending_pending : s.cutSending.pending = s.pending := rfl
@[simp] theorem State.cutSending_phase : s.cutSending.phase = s.phase := rfl
@[simp] theorem State.cutSending_pins : s.cutSending.pins = s.pins := rfl
@[simp] theorem State.cutSending_linkMSynced : s.cutSending.linkMSynced = s.linkMSynced := rfl
@[simp] theorem State.cutSending_intake : s.cutSending.intake = s.intake := rfl
@[simp] theorem State.cutSending_ring : s.cutSending.ring = s.ring := rfl
@[simp] theorem State.cutSending_tracker : s.cutSending.tracker = s.tracker := rfl
@[simp] theorem State.cutSending_transform : s.cutSending.transform = s.transform := rfl
@[simp] theorem State.cutSending_composer : s.cutSending.composer = s.composer := rfl
@[simp] theorem State.cutSending_linkC : s.cutSending.linkC = s.linkC := rfl
@[simp] theorem State.cutSending_store : s.cutSending.store = s.store := rfl
@[simp] theorem State.cutSending_supervision : s.cutSending.supervision = s.supervision := rfl
@[simp] theorem State.cutSending_engine : s.cutSending.engine = s.engine := rfl
@[simp] theorem State.cutSending_events : s.cutSending.events = s.events := rfl
@[simp] theorem State.cutSending_health : s.cutSending.health = s.health := rfl
@[simp] theorem State.cutSending_linkMOut :
    s.cutSending.linkMOut = s.linkMOut.cut (Config.responseWordsSent s.picks) := rfl
@[simp] theorem State.cutSending_linkCOut :
    s.cutSending.linkCOut = s.linkCOut.cut (Config.referenceWordsSent s.picks) := rfl
@[simp] theorem State.cutSending_picks : s.cutSending.picks = s.picks := rfl

end Sys2Proof.Machine
end

