-- ==== Sys2Proof/Laws/Events.lean ====
section
/-! SUPPORT. What offering records can do: it changes the event unit and the counter of free choices alone, the records
enter in some order of the blocks, each block's in its own order (R175). -/

namespace Sys2Proof.Machine

/-! ### One record (R175) -/

theorem EventUnit.take_of_room {mode : AttentionMode} {e : EventUnit} {r : EventRecord} (h : e.queue.length < 16) :
    e.take mode r = ⟨e.queue ++ [r], e.overflow, true, if mode = .pulsed then some 100 else e.pulse⟩ := by
  simp [EventUnit.take, h]

theorem EventUnit.take_of_full {mode : AttentionMode} {e : EventUnit} {r : EventRecord} (h : 16 ≤ e.queue.length) :
    e.take mode r = ⟨e.queue, true, e.line, e.pulse⟩ := by
  simp [EventUnit.take, Nat.not_lt.2 h]

theorem EventUnit.take_length_le {mode : AttentionMode} {e : EventUnit} {r : EventRecord} (h : e.queue.length ≤ 16) :
    (e.take mode r).queue.length ≤ 16 := by
  by_cases hr : e.queue.length < 16
  · rw [take_of_room hr]; simp; omega
  · rw [take_of_full (by omega)]; exact h

/-! ### Several blocks at one moment (R175) -/

theorem flatten_openGroups (groups : List (List EventRecord)) : (openGroups groups).flatten = groups.flatten := by
  induction groups with
  | nil => rfl
  | cons g gs ih => cases g <;> simp_all [openGroups]

theorem openGroups_ne_nil {groups : List (List EventRecord)} {g : List EventRecord} (h : g ∈ openGroups groups) :
    g ≠ [] := by
  simp [openGroups] at h; exact h.2

/-- One record moved from the front of group `k` to the front of all. -/
theorem take_modify_perm (gs : List (List EventRecord)) (k : Nat) (hk : k < gs.length) :
    ((gs.getD k []).take 1 ++ (gs.modify k List.tail).flatten).Perm gs.flatten := by
  induction gs generalizing k with
  | nil => simp at hk
  | cons g gs ih =>
    cases k with
    | zero => cases g <;> simp
    | succ k =>
      have h := ih k (by simpa using hk)
      simp only [List.getD_cons_succ, List.modify_succ_cons, List.flatten_cons]
      refine List.Perm.trans ?_ (List.Perm.append_left g h)
      rw [← List.append_assoc, ← List.append_assoc]
      exact List.perm_append_comm.append_right _

theorem flatten_modify_tail_length (gs : List (List EventRecord)) (k : Nat) (hk : k < gs.length) (hne : gs[k] ≠ []) :
    (gs.modify k List.tail).flatten.length + 1 = gs.flatten.length := by
  have h := (take_modify_perm gs k hk).length_eq
  rw [List.length_append] at h
  have : ((gs.getD k []).take 1).length = 1 := by
    rw [List.getD_eq_getElem _ _ hk]
    obtain ⟨a, l, hl⟩ := List.exists_cons_of_ne_nil hne
    simp [hl]
  omega

/-- R175: every offered record enters the order exactly once. -/
theorem mergeRecords_perm (fuel picks : Nat) (groups : List (List EventRecord)) (h : groups.flatten.length ≤ fuel) :
    (mergeRecords fuel picks groups).1.Perm groups.flatten := by
  induction fuel generalizing picks groups with
  | zero =>
    have : groups.flatten = [] := List.eq_nil_of_length_eq_zero (by omega)
    simp [mergeRecords, this]
  | succ fuel ih =>
    rw [mergeRecords]
    rw [← flatten_openGroups groups] at h ⊢
    have hne : ∀ g ∈ openGroups groups, g ≠ [] := fun _ => openGroups_ne_nil
    generalize openGroups groups = gs at h hne ⊢
    cases gs with
    | nil => simp
    | cons g1 gs =>
      cases gs with
      | nil => simp
      | cons g2 gs =>
        simp only
        have hk : Config.recordOrder picks % (g1 :: g2 :: gs).length < (g1 :: g2 :: gs).length :=
          Nat.mod_lt _ (by simp)
        generalize Config.recordOrder picks % (g1 :: g2 :: gs).length = k at hk
        have hlen := flatten_modify_tail_length _ k hk (hne _ (List.getElem_mem hk))
        exact (List.Perm.append_left _ (ih (picks + 1) _ (by omega))).trans (take_modify_perm _ k hk)

/-- A single block's records enter in its own order, and no choice is made. -/
theorem mergeRecords_single (fuel picks : Nat) (g : List EventRecord) (h : g.length ≤ fuel) :
    mergeRecords fuel picks [g] = (g, picks) := by
  cases fuel with
  | zero => have : g = [] := List.eq_nil_of_length_eq_zero (by omega); simp [mergeRecords, this]
  | succ n => cases g <;> simp [mergeRecords, openGroups]

/-! ### Delivery -/

/-- R175: delivery takes the routed records one after another, in an order that holds each of them exactly once. -/
theorem State.deliver_events (s : State) (groups : List (List Offer)) :
    ∃ recs : List EventRecord,
      recs.Perm (groups.map fun g => g.filterMap (Offer.routed s.bank)).flatten
        ∧ (s.deliver groups).events = recs.foldl (EventUnit.take s.engine.attention) s.events :=
  ⟨_, mergeRecords_perm _ _ _ (Nat.le_refl _), rfl⟩

/-- One block's offers enter in their own order, and no choice is made. -/
theorem State.offer_eq (s : State) (offers : List Offer) :
    s.offer offers =
      s.setEvents ((offers.filterMap (Offer.routed s.bank)).foldl (EventUnit.take s.engine.attention) s.events)
        s.picks := by
  simp [State.offer, State.deliver, mergeRecords_single]

variable (s : State)

/-! ### What `deliver` leaves -/

@[simp] theorem State.deliver_pending (g : List (List Offer)) : (s.deliver g).pending = s.pending := rfl
@[simp] theorem State.deliver_phase (g : List (List Offer)) : (s.deliver g).phase = s.phase := rfl
@[simp] theorem State.deliver_pins (g : List (List Offer)) : (s.deliver g).pins = s.pins := rfl
@[simp] theorem State.deliver_linkMSynced (g : List (List Offer)) : (s.deliver g).linkMSynced = s.linkMSynced := rfl
@[simp] theorem State.deliver_intake (g : List (List Offer)) : (s.deliver g).intake = s.intake := rfl
@[simp] theorem State.deliver_ring (g : List (List Offer)) : (s.deliver g).ring = s.ring := rfl
@[simp] theorem State.deliver_tracker (g : List (List Offer)) : (s.deliver g).tracker = s.tracker := rfl
@[simp] theorem State.deliver_transform (g : List (List Offer)) : (s.deliver g).transform = s.transform := rfl
@[simp] theorem State.deliver_composer (g : List (List Offer)) : (s.deliver g).composer = s.composer := rfl
@[simp] theorem State.deliver_linkC (g : List (List Offer)) : (s.deliver g).linkC = s.linkC := rfl
@[simp] theorem State.deliver_store (g : List (List Offer)) : (s.deliver g).store = s.store := rfl
@[simp] theorem State.deliver_supervision (g : List (List Offer)) : (s.deliver g).supervision = s.supervision := rfl
@[simp] theorem State.deliver_engine (g : List (List Offer)) : (s.deliver g).engine = s.engine := rfl
@[simp] theorem State.deliver_health (g : List (List Offer)) : (s.deliver g).health = s.health := rfl
@[simp] theorem State.deliver_linkMOut (g : List (List Offer)) : (s.deliver g).linkMOut = s.linkMOut := rfl
@[simp] theorem State.deliver_linkCOut (g : List (List Offer)) : (s.deliver g).linkCOut = s.linkCOut := rfl

/-! ### What `offer` leaves -/

@[simp] theorem State.offer_pending (o : List Offer) : (s.offer o).pending = s.pending := rfl
@[simp] theorem State.offer_phase (o : List Offer) : (s.offer o).phase = s.phase := rfl
@[simp] theorem State.offer_pins (o : List Offer) : (s.offer o).pins = s.pins := rfl
@[simp] theorem State.offer_linkMSynced (o : List Offer) : (s.offer o).linkMSynced = s.linkMSynced := rfl
@[simp] theorem State.offer_intake (o : List Offer) : (s.offer o).intake = s.intake := rfl
@[simp] theorem State.offer_ring (o : List Offer) : (s.offer o).ring = s.ring := rfl
@[simp] theorem State.offer_tracker (o : List Offer) : (s.offer o).tracker = s.tracker := rfl
@[simp] theorem State.offer_transform (o : List Offer) : (s.offer o).transform = s.transform := rfl
@[simp] theorem State.offer_composer (o : List Offer) : (s.offer o).composer = s.composer := rfl
@[simp] theorem State.offer_linkC (o : List Offer) : (s.offer o).linkC = s.linkC := rfl
@[simp] theorem State.offer_store (o : List Offer) : (s.offer o).store = s.store := rfl
@[simp] theorem State.offer_supervision (o : List Offer) : (s.offer o).supervision = s.supervision := rfl
@[simp] theorem State.offer_engine (o : List Offer) : (s.offer o).engine = s.engine := rfl
@[simp] theorem State.offer_health (o : List Offer) : (s.offer o).health = s.health := rfl
@[simp] theorem State.offer_linkMOut (o : List Offer) : (s.offer o).linkMOut = s.linkMOut := rfl
@[simp] theorem State.offer_linkCOut (o : List Offer) : (s.offer o).linkCOut = s.linkCOut := rfl

/-! ### What `record` leaves -/

@[simp] theorem State.record_pending (b : EventBody) : (s.record b).pending = s.pending := rfl
@[simp] theorem State.record_phase (b : EventBody) : (s.record b).phase = s.phase := rfl
@[simp] theorem State.record_pins (b : EventBody) : (s.record b).pins = s.pins := rfl
@[simp] theorem State.record_linkMSynced (b : EventBody) : (s.record b).linkMSynced = s.linkMSynced := rfl
@[simp] theorem State.record_intake (b : EventBody) : (s.record b).intake = s.intake := rfl
@[simp] theorem State.record_ring (b : EventBody) : (s.record b).ring = s.ring := rfl
@[simp] theorem State.record_tracker (b : EventBody) : (s.record b).tracker = s.tracker := rfl
@[simp] theorem State.record_transform (b : EventBody) : (s.record b).transform = s.transform := rfl
@[simp] theorem State.record_composer (b : EventBody) : (s.record b).composer = s.composer := rfl
@[simp] theorem State.record_linkC (b : EventBody) : (s.record b).linkC = s.linkC := rfl
@[simp] theorem State.record_store (b : EventBody) : (s.record b).store = s.store := rfl
@[simp] theorem State.record_supervision (b : EventBody) : (s.record b).supervision = s.supervision := rfl
@[simp] theorem State.record_engine (b : EventBody) : (s.record b).engine = s.engine := rfl
@[simp] theorem State.record_health (b : EventBody) : (s.record b).health = s.health := rfl
@[simp] theorem State.record_linkMOut (b : EventBody) : (s.record b).linkMOut = s.linkMOut := rfl
@[simp] theorem State.record_linkCOut (b : EventBody) : (s.record b).linkCOut = s.linkCOut := rfl

/-! ### What `offerChanges` leaves -/

@[simp] theorem State.offerChanges_pending (t : State) (cs : List Condition) : (s.offerChanges t cs).pending = s.pending := rfl
@[simp] theorem State.offerChanges_phase (t : State) (cs : List Condition) : (s.offerChanges t cs).phase = s.phase := rfl
@[simp] theorem State.offerChanges_pins (t : State) (cs : List Condition) : (s.offerChanges t cs).pins = s.pins := rfl
@[simp] theorem State.offerChanges_linkMSynced (t : State) (cs : List Condition) : (s.offerChanges t cs).linkMSynced = s.linkMSynced := rfl
@[simp] theorem State.offerChanges_intake (t : State) (cs : List Condition) : (s.offerChanges t cs).intake = s.intake := rfl
@[simp] theorem State.offerChanges_ring (t : State) (cs : List Condition) : (s.offerChanges t cs).ring = s.ring := rfl
@[simp] theorem State.offerChanges_tracker (t : State) (cs : List Condition) : (s.offerChanges t cs).tracker = s.tracker := rfl
@[simp] theorem State.offerChanges_transform (t : State) (cs : List Condition) : (s.offerChanges t cs).transform = s.transform := rfl
@[simp] theorem State.offerChanges_composer (t : State) (cs : List Condition) : (s.offerChanges t cs).composer = s.composer := rfl
@[simp] theorem State.offerChanges_linkC (t : State) (cs : List Condition) : (s.offerChanges t cs).linkC = s.linkC := rfl
@[simp] theorem State.offerChanges_store (t : State) (cs : List Condition) : (s.offerChanges t cs).store = s.store := rfl
@[simp] theorem State.offerChanges_supervision (t : State) (cs : List Condition) : (s.offerChanges t cs).supervision = s.supervision := rfl
@[simp] theorem State.offerChanges_engine (t : State) (cs : List Condition) : (s.offerChanges t cs).engine = s.engine := rfl
@[simp] theorem State.offerChanges_health (t : State) (cs : List Condition) : (s.offerChanges t cs).health = s.health := rfl
@[simp] theorem State.offerChanges_linkMOut (t : State) (cs : List Condition) : (s.offerChanges t cs).linkMOut = s.linkMOut := rfl
@[simp] theorem State.offerChanges_linkCOut (t : State) (cs : List Condition) : (s.offerChanges t cs).linkCOut = s.linkCOut := rfl

end Sys2Proof.Machine
end

