-- ==== Sys2Proof/Laws/Blocks.lean ====
section
/-! SUPPORT. What each condition is read from, the offers of its change, and what the steps of a released set, of a swap
completion and of a boundary leave in each block (R35, R126, R127, R135). -/

namespace Sys2Proof.Machine

/-! ### Conditions and their changes -/

variable (s : State)

@[simp] theorem State.cond_voltageLost : s.cond .voltageLost = (s.intake.voltage == .none) := rfl
@[simp] theorem State.cond_unlocked : s.cond .unlocked = !s.tracker.locked := rfl
@[simp] theorem State.cond_sag : s.cond .sag = s.tracker.sag := rfl
@[simp] theorem State.cond_overvoltage : s.cond .overvoltage = s.tracker.overvoltage := rfl
@[simp] theorem State.cond_feederSourceLost : s.cond .feederSourceLost = s.intake.feederLost := rfl
@[simp] theorem State.cond_standbyInUse : s.cond .standbyInUse = (s.intake.voltage == .standby) := rfl
@[simp] theorem State.cond_converterBlocked : s.cond .converterBlocked = s.linkC.isBlocked := rfl
@[simp] theorem State.cond_converterStale : s.cond .converterStale = s.linkC.stale := rfl
@[simp] theorem State.cond_thermalDerate : s.cond .thermalDerate = s.linkC.derate := rfl
@[simp] theorem State.cond_qClamped : s.cond .qClamped = s.composer.qClamped := rfl
@[simp] theorem State.cond_nScaled : s.cond .nScaled = s.composer.nScaled := rfl
@[simp] theorem State.cond_tableFault : s.cond .tableFault = s.store.tableFault := rfl
@[simp] theorem State.cond_quiet : s.cond .quiet = s.supervision.quiet := rfl
@[simp] theorem State.cond_injecting : s.cond .injecting = s.composer.injActive := rfl
@[simp] theorem State.cond_healthLow : s.cond .healthLow = s.health.low := rfl

@[simp] theorem changeOffers_nil (t : State) (cycle : Nat) (set : Option Nat) :
    changeOffers [] s t cycle set = [] := rfl

@[simp] theorem changeOffers_cons (c : Condition) (cs : List Condition) (t : State) (cycle : Nat) (set : Option Nat) :
    changeOffers (c :: cs) s t cycle set =
      changed c (s.cond c) (t.cond c) cycle set ++ changeOffers cs s t cycle set := by
  by_cases h : s.cond c = t.cond c <;> simp [changeOffers, changed, h]

/-- The condition changes of one block are offered in its own order; none is offered where none changes. -/
theorem changed_eq_nil_iff (c : Condition) (was is : Bool) (cycle : Nat) (set : Option Nat) :
    changed c was is cycle set = [] ↔ was = is := by
  unfold changed; split <;> simp_all

/-! ### The active bank -/

theorem State.setSupervision_again (x y : Supervision) :
    (s.setSupervision x).setSupervision y = s.setSupervision y := rfl


@[simp] theorem State.deliver_bank (g : List (List Offer)) : (s.deliver g).bank = s.bank := rfl
@[simp] theorem State.offer_bank (o : List Offer) : (s.offer o).bank = s.bank := rfl

@[simp] theorem State.setPins_bank (x : Pins) : (s.setPins x).bank = s.bank := rfl
@[simp] theorem State.setIntake_bank (x : Intake) : (s.setIntake x).bank = s.bank := rfl
@[simp] theorem State.setRing_bank (x : Ring) : (s.setRing x).bank = s.bank := rfl
@[simp] theorem State.setTracker_bank (x : Tracker) : (s.setTracker x).bank = s.bank := rfl
@[simp] theorem State.setTransform_bank (x : Transform) : (s.setTransform x).bank = s.bank := rfl
@[simp] theorem State.setComposer_bank (x : Composer) : (s.setComposer x).bank = s.bank := rfl
@[simp] theorem State.setLinkC_bank (x : LinkC) : (s.setLinkC x).bank = s.bank := rfl
@[simp] theorem State.setSupervision_bank (x : Supervision) : (s.setSupervision x).bank = s.bank := rfl
@[simp] theorem State.setEngine_bank (x : Engine) : (s.setEngine x).bank = s.bank := rfl
@[simp] theorem State.setHealth_bank (x : Health) : (s.setHealth x).bank = s.bank := rfl
@[simp] theorem State.setStore_bank (x : TableStore) : (s.setStore x).bank = x.activeBank := rfl

/-! ### What the tracker leaves at a set (R41) -/

@[simp] theorem State.track_pending (count : Nat) (v : Option Phases) :
    (s.track count v).pending = s.pending := by
  simp only [State.track, State.offer_pending, State.setTracker_pending]
@[simp] theorem State.track_phase (count : Nat) (v : Option Phases) :
    (s.track count v).phase = s.phase := by
  simp only [State.track, State.offer_phase, State.setTracker_phase]
@[simp] theorem State.track_pins (count : Nat) (v : Option Phases) :
    (s.track count v).pins = s.pins := by
  simp only [State.track, State.offer_pins, State.setTracker_pins]
@[simp] theorem State.track_linkMSynced (count : Nat) (v : Option Phases) :
    (s.track count v).linkMSynced = s.linkMSynced := by
  simp only [State.track, State.offer_linkMSynced, State.setTracker_linkMSynced]
@[simp] theorem State.track_intake (count : Nat) (v : Option Phases) :
    (s.track count v).intake = s.intake := by
  simp only [State.track, State.offer_intake, State.setTracker_intake]
@[simp] theorem State.track_ring (count : Nat) (v : Option Phases) :
    (s.track count v).ring = s.ring := by
  simp only [State.track, State.offer_ring, State.setTracker_ring]
@[simp] theorem State.track_transform (count : Nat) (v : Option Phases) :
    (s.track count v).transform = s.transform := by
  simp only [State.track, State.offer_transform, State.setTracker_transform]
@[simp] theorem State.track_composer (count : Nat) (v : Option Phases) :
    (s.track count v).composer = s.composer := by
  simp only [State.track, State.offer_composer, State.setTracker_composer]
@[simp] theorem State.track_linkC (count : Nat) (v : Option Phases) :
    (s.track count v).linkC = s.linkC := by
  simp only [State.track, State.offer_linkC, State.setTracker_linkC]
@[simp] theorem State.track_store (count : Nat) (v : Option Phases) :
    (s.track count v).store = s.store := by
  simp only [State.track, State.offer_store, State.setTracker_store]
@[simp] theorem State.track_supervision (count : Nat) (v : Option Phases) :
    (s.track count v).supervision = s.supervision := by
  simp only [State.track, State.offer_supervision, State.setTracker_supervision]
@[simp] theorem State.track_engine (count : Nat) (v : Option Phases) :
    (s.track count v).engine = s.engine := by
  simp only [State.track, State.offer_engine, State.setTracker_engine]
@[simp] theorem State.track_health (count : Nat) (v : Option Phases) :
    (s.track count v).health = s.health := by
  simp only [State.track, State.offer_health, State.setTracker_health]
@[simp] theorem State.track_linkMOut (count : Nat) (v : Option Phases) :
    (s.track count v).linkMOut = s.linkMOut := by
  simp only [State.track, State.offer_linkMOut, State.setTracker_linkMOut]
@[simp] theorem State.track_linkCOut (count : Nat) (v : Option Phases) :
    (s.track count v).linkCOut = s.linkCOut := by
  simp only [State.track, State.offer_linkCOut, State.setTracker_linkCOut]
@[simp] theorem State.track_bank (count : Nat) (v : Option Phases) :
    (s.track count v).bank = s.bank := by
  simp only [State.track, State.offer_bank, State.setTracker_bank]

/-! ### What the transform unit leaves at a set (R57) -/

@[simp] theorem State.feedWindows_pending (i : Nat) (v : Vector (Option Phases) 6) :
    (s.feedWindows i v).pending = s.pending := by
  simp only [State.feedWindows, State.setTransform_pending]
@[simp] theorem State.feedWindows_phase (i : Nat) (v : Vector (Option Phases) 6) :
    (s.feedWindows i v).phase = s.phase := by
  simp only [State.feedWindows, State.setTransform_phase]
@[simp] theorem State.feedWindows_pins (i : Nat) (v : Vector (Option Phases) 6) :
    (s.feedWindows i v).pins = s.pins := by
  simp only [State.feedWindows, State.setTransform_pins]
@[simp] theorem State.feedWindows_linkMSynced (i : Nat) (v : Vector (Option Phases) 6) :
    (s.feedWindows i v).linkMSynced = s.linkMSynced := by
  simp only [State.feedWindows, State.setTransform_linkMSynced]
@[simp] theorem State.feedWindows_intake (i : Nat) (v : Vector (Option Phases) 6) :
    (s.feedWindows i v).intake = s.intake := by
  simp only [State.feedWindows, State.setTransform_intake]
@[simp] theorem State.feedWindows_ring (i : Nat) (v : Vector (Option Phases) 6) :
    (s.feedWindows i v).ring = s.ring := by
  simp only [State.feedWindows, State.setTransform_ring]
@[simp] theorem State.feedWindows_tracker (i : Nat) (v : Vector (Option Phases) 6) :
    (s.feedWindows i v).tracker = s.tracker := by
  simp only [State.feedWindows, State.setTransform_tracker]
@[simp] theorem State.feedWindows_composer (i : Nat) (v : Vector (Option Phases) 6) :
    (s.feedWindows i v).composer = s.composer := by
  simp only [State.feedWindows, State.setTransform_composer]
@[simp] theorem State.feedWindows_linkC (i : Nat) (v : Vector (Option Phases) 6) :
    (s.feedWindows i v).linkC = s.linkC := by
  simp only [State.feedWindows, State.setTransform_linkC]
@[simp] theorem State.feedWindows_store (i : Nat) (v : Vector (Option Phases) 6) :
    (s.feedWindows i v).store = s.store := by
  simp only [State.feedWindows, State.setTransform_store]
@[simp] theorem State.feedWindows_supervision (i : Nat) (v : Vector (Option Phases) 6) :
    (s.feedWindows i v).supervision = s.supervision := by
  simp only [State.feedWindows, State.setTransform_supervision]
@[simp] theorem State.feedWindows_engine (i : Nat) (v : Vector (Option Phases) 6) :
    (s.feedWindows i v).engine = s.engine := by
  simp only [State.feedWindows, State.setTransform_engine]
@[simp] theorem State.feedWindows_events (i : Nat) (v : Vector (Option Phases) 6) :
    (s.feedWindows i v).events = s.events := by
  simp only [State.feedWindows, State.setTransform_events]
@[simp] theorem State.feedWindows_health (i : Nat) (v : Vector (Option Phases) 6) :
    (s.feedWindows i v).health = s.health := by
  simp only [State.feedWindows, State.setTransform_health]
@[simp] theorem State.feedWindows_linkMOut (i : Nat) (v : Vector (Option Phases) 6) :
    (s.feedWindows i v).linkMOut = s.linkMOut := by
  simp only [State.feedWindows, State.setTransform_linkMOut]
@[simp] theorem State.feedWindows_linkCOut (i : Nat) (v : Vector (Option Phases) 6) :
    (s.feedWindows i v).linkCOut = s.linkCOut := by
  simp only [State.feedWindows, State.setTransform_linkCOut]
@[simp] theorem State.feedWindows_picks (i : Nat) (v : Vector (Option Phases) 6) :
    (s.feedWindows i v).picks = s.picks := by
  simp only [State.feedWindows, State.setTransform_picks]
@[simp] theorem State.feedWindows_bank (i : Nat) (v : Vector (Option Phases) 6) :
    (s.feedWindows i v).bank = s.bank := by
  simp only [State.feedWindows, State.setTransform_bank]

/-! ### What the composer leaves at a set (R85) -/

@[simp] theorem State.compose_pending (count : Nat) (out : Composed) :
    (s.compose count out).pending = s.pending := by
  simp only [State.compose, State.offer_pending, State.setHealth_pending, State.setComposer_pending]
@[simp] theorem State.compose_phase (count : Nat) (out : Composed) :
    (s.compose count out).phase = s.phase := by
  simp only [State.compose, State.offer_phase, State.setHealth_phase, State.setComposer_phase]
@[simp] theorem State.compose_pins (count : Nat) (out : Composed) :
    (s.compose count out).pins = s.pins := by
  simp only [State.compose, State.offer_pins, State.setHealth_pins, State.setComposer_pins]
@[simp] theorem State.compose_linkMSynced (count : Nat) (out : Composed) :
    (s.compose count out).linkMSynced = s.linkMSynced := by
  simp only [State.compose, State.offer_linkMSynced, State.setHealth_linkMSynced, State.setComposer_linkMSynced]
@[simp] theorem State.compose_intake (count : Nat) (out : Composed) :
    (s.compose count out).intake = s.intake := by
  simp only [State.compose, State.offer_intake, State.setHealth_intake, State.setComposer_intake]
@[simp] theorem State.compose_ring (count : Nat) (out : Composed) :
    (s.compose count out).ring = s.ring := by
  simp only [State.compose, State.offer_ring, State.setHealth_ring, State.setComposer_ring]
@[simp] theorem State.compose_tracker (count : Nat) (out : Composed) :
    (s.compose count out).tracker = s.tracker := by
  simp only [State.compose, State.offer_tracker, State.setHealth_tracker, State.setComposer_tracker]
@[simp] theorem State.compose_transform (count : Nat) (out : Composed) :
    (s.compose count out).transform = s.transform := by
  simp only [State.compose, State.offer_transform, State.setHealth_transform, State.setComposer_transform]
@[simp] theorem State.compose_linkC (count : Nat) (out : Composed) :
    (s.compose count out).linkC = s.linkC := by
  simp only [State.compose, State.offer_linkC, State.setHealth_linkC, State.setComposer_linkC]
@[simp] theorem State.compose_store (count : Nat) (out : Composed) :
    (s.compose count out).store = s.store := by
  simp only [State.compose, State.offer_store, State.setHealth_store, State.setComposer_store]
@[simp] theorem State.compose_supervision (count : Nat) (out : Composed) :
    (s.compose count out).supervision = s.supervision := by
  simp only [State.compose, State.offer_supervision, State.setHealth_supervision, State.setComposer_supervision]
@[simp] theorem State.compose_engine (count : Nat) (out : Composed) :
    (s.compose count out).engine = s.engine := by
  simp only [State.compose, State.offer_engine, State.setHealth_engine, State.setComposer_engine]
@[simp] theorem State.compose_linkMOut (count : Nat) (out : Composed) :
    (s.compose count out).linkMOut = s.linkMOut := by
  simp only [State.compose, State.offer_linkMOut, State.setHealth_linkMOut, State.setComposer_linkMOut]
@[simp] theorem State.compose_linkCOut (count : Nat) (out : Composed) :
    (s.compose count out).linkCOut = s.linkCOut := by
  simp only [State.compose, State.offer_linkCOut, State.setHealth_linkCOut, State.setComposer_linkCOut]
@[simp] theorem State.compose_bank (count : Nat) (out : Composed) :
    (s.compose count out).bank = s.bank := by
  simp only [State.compose, State.offer_bank, State.setHealth_bank, State.setComposer_bank]

/-! ### What a raw count leaves (R183) -/

@[simp] theorem State.countHealth_pending (a : Attribute) (n : Nat) :
    (s.countHealth a n).pending = s.pending := by
  simp only [State.countHealth, State.setHealth_pending]
@[simp] theorem State.countHealth_phase (a : Attribute) (n : Nat) :
    (s.countHealth a n).phase = s.phase := by
  simp only [State.countHealth, State.setHealth_phase]
@[simp] theorem State.countHealth_pins (a : Attribute) (n : Nat) :
    (s.countHealth a n).pins = s.pins := by
  simp only [State.countHealth, State.setHealth_pins]
@[simp] theorem State.countHealth_linkMSynced (a : Attribute) (n : Nat) :
    (s.countHealth a n).linkMSynced = s.linkMSynced := by
  simp only [State.countHealth, State.setHealth_linkMSynced]
@[simp] theorem State.countHealth_intake (a : Attribute) (n : Nat) :
    (s.countHealth a n).intake = s.intake := by
  simp only [State.countHealth, State.setHealth_intake]
@[simp] theorem State.countHealth_ring (a : Attribute) (n : Nat) :
    (s.countHealth a n).ring = s.ring := by
  simp only [State.countHealth, State.setHealth_ring]
@[simp] theorem State.countHealth_tracker (a : Attribute) (n : Nat) :
    (s.countHealth a n).tracker = s.tracker := by
  simp only [State.countHealth, State.setHealth_tracker]
@[simp] theorem State.countHealth_transform (a : Attribute) (n : Nat) :
    (s.countHealth a n).transform = s.transform := by
  simp only [State.countHealth, State.setHealth_transform]
@[simp] theorem State.countHealth_composer (a : Attribute) (n : Nat) :
    (s.countHealth a n).composer = s.composer := by
  simp only [State.countHealth, State.setHealth_composer]
@[simp] theorem State.countHealth_linkC (a : Attribute) (n : Nat) :
    (s.countHealth a n).linkC = s.linkC := by
  simp only [State.countHealth, State.setHealth_linkC]
@[simp] theorem State.countHealth_store (a : Attribute) (n : Nat) :
    (s.countHealth a n).store = s.store := by
  simp only [State.countHealth, State.setHealth_store]
@[simp] theorem State.countHealth_supervision (a : Attribute) (n : Nat) :
    (s.countHealth a n).supervision = s.supervision := by
  simp only [State.countHealth, State.setHealth_supervision]
@[simp] theorem State.countHealth_engine (a : Attribute) (n : Nat) :
    (s.countHealth a n).engine = s.engine := by
  simp only [State.countHealth, State.setHealth_engine]
@[simp] theorem State.countHealth_events (a : Attribute) (n : Nat) :
    (s.countHealth a n).events = s.events := by
  simp only [State.countHealth, State.setHealth_events]
@[simp] theorem State.countHealth_linkMOut (a : Attribute) (n : Nat) :
    (s.countHealth a n).linkMOut = s.linkMOut := by
  simp only [State.countHealth, State.setHealth_linkMOut]
@[simp] theorem State.countHealth_linkCOut (a : Attribute) (n : Nat) :
    (s.countHealth a n).linkCOut = s.linkCOut := by
  simp only [State.countHealth, State.setHealth_linkCOut]
@[simp] theorem State.countHealth_picks (a : Attribute) (n : Nat) :
    (s.countHealth a n).picks = s.picks := by
  simp only [State.countHealth, State.setHealth_picks]
@[simp] theorem State.countHealth_bank (a : Attribute) (n : Nat) :
    (s.countHealth a n).bank = s.bank := by
  simp only [State.countHealth, State.setHealth_bank]

/-! ### What the health work of a boundary leaves (R184) -/

@[simp] theorem State.healthBoundary_pending : s.healthBoundary.pending = s.pending := by
  simp only [State.healthBoundary, State.setHealth_pending]
@[simp] theorem State.healthBoundary_phase : s.healthBoundary.phase = s.phase := by
  simp only [State.healthBoundary, State.setHealth_phase]
@[simp] theorem State.healthBoundary_pins : s.healthBoundary.pins = s.pins := by
  simp only [State.healthBoundary, State.setHealth_pins]
@[simp] theorem State.healthBoundary_linkMSynced : s.healthBoundary.linkMSynced = s.linkMSynced := by
  simp only [State.healthBoundary, State.setHealth_linkMSynced]
@[simp] theorem State.healthBoundary_intake : s.healthBoundary.intake = s.intake := by
  simp only [State.healthBoundary, State.setHealth_intake]
@[simp] theorem State.healthBoundary_ring : s.healthBoundary.ring = s.ring := by
  simp only [State.healthBoundary, State.setHealth_ring]
@[simp] theorem State.healthBoundary_tracker : s.healthBoundary.tracker = s.tracker := by
  simp only [State.healthBoundary, State.setHealth_tracker]
@[simp] theorem State.healthBoundary_transform : s.healthBoundary.transform = s.transform := by
  simp only [State.healthBoundary, State.setHealth_transform]
@[simp] theorem State.healthBoundary_composer : s.healthBoundary.composer = s.composer := by
  simp only [State.healthBoundary, State.setHealth_composer]
@[simp] theorem State.healthBoundary_linkC : s.healthBoundary.linkC = s.linkC := by
  simp only [State.healthBoundary, State.setHealth_linkC]
@[simp] theorem State.healthBoundary_store : s.healthBoundary.store = s.store := by
  simp only [State.healthBoundary, State.setHealth_store]
@[simp] theorem State.healthBoundary_supervision : s.healthBoundary.supervision = s.supervision := by
  simp only [State.healthBoundary, State.setHealth_supervision]
@[simp] theorem State.healthBoundary_engine : s.healthBoundary.engine = s.engine := by
  simp only [State.healthBoundary, State.setHealth_engine]
@[simp] theorem State.healthBoundary_events : s.healthBoundary.events = s.events := by
  simp only [State.healthBoundary, State.setHealth_events]
@[simp] theorem State.healthBoundary_linkMOut : s.healthBoundary.linkMOut = s.linkMOut := by
  simp only [State.healthBoundary, State.setHealth_linkMOut]
@[simp] theorem State.healthBoundary_linkCOut : s.healthBoundary.linkCOut = s.linkCOut := by
  simp only [State.healthBoundary, State.setHealth_linkCOut]
@[simp] theorem State.healthBoundary_picks : s.healthBoundary.picks = s.picks := by
  simp only [State.healthBoundary, State.setHealth_picks]
@[simp] theorem State.healthBoundary_bank : s.healthBoundary.bank = s.bank := by
  simp only [State.healthBoundary, State.setHealth_bank]

/-! ### What the composer's roll leaves (R87) -/

@[simp] theorem State.rollFlags_pending : s.rollFlags.pending = s.pending := rfl
@[simp] theorem State.rollFlags_phase : s.rollFlags.phase = s.phase := rfl
@[simp] theorem State.rollFlags_pins : s.rollFlags.pins = s.pins := rfl
@[simp] theorem State.rollFlags_linkMSynced : s.rollFlags.linkMSynced = s.linkMSynced := rfl
@[simp] theorem State.rollFlags_intake : s.rollFlags.intake = s.intake := rfl
@[simp] theorem State.rollFlags_ring : s.rollFlags.ring = s.ring := rfl
@[simp] theorem State.rollFlags_tracker : s.rollFlags.tracker = s.tracker := rfl
@[simp] theorem State.rollFlags_transform : s.rollFlags.transform = s.transform := rfl
@[simp] theorem State.rollFlags_linkC : s.rollFlags.linkC = s.linkC := rfl
@[simp] theorem State.rollFlags_store : s.rollFlags.store = s.store := rfl
@[simp] theorem State.rollFlags_supervision : s.rollFlags.supervision = s.supervision := rfl
@[simp] theorem State.rollFlags_engine : s.rollFlags.engine = s.engine := rfl
@[simp] theorem State.rollFlags_events : s.rollFlags.events = s.events := rfl
@[simp] theorem State.rollFlags_health : s.rollFlags.health = s.health := rfl
@[simp] theorem State.rollFlags_linkMOut : s.rollFlags.linkMOut = s.linkMOut := rfl
@[simp] theorem State.rollFlags_linkCOut : s.rollFlags.linkCOut = s.linkCOut := rfl
@[simp] theorem State.rollFlags_picks : s.rollFlags.picks = s.picks := rfl
@[simp] theorem State.rollFlags_composer : s.rollFlags.composer = s.composer.roll := rfl
@[simp] theorem State.rollFlags_bank : s.rollFlags.bank = s.bank := rfl

/-! ### What closing a cycle leaves (R52) -/

@[simp] theorem State.closeCycle_pending : s.closeCycle.pending = s.pending := rfl
@[simp] theorem State.closeCycle_phase : s.closeCycle.phase = s.phase := rfl
@[simp] theorem State.closeCycle_pins : s.closeCycle.pins = s.pins := rfl
@[simp] theorem State.closeCycle_linkMSynced : s.closeCycle.linkMSynced = s.linkMSynced := rfl
@[simp] theorem State.closeCycle_intake : s.closeCycle.intake = s.intake := rfl
@[simp] theorem State.closeCycle_ring : s.closeCycle.ring = s.ring := rfl
@[simp] theorem State.closeCycle_transform : s.closeCycle.transform = s.transform := rfl
@[simp] theorem State.closeCycle_composer : s.closeCycle.composer = s.composer := rfl
@[simp] theorem State.closeCycle_linkC : s.closeCycle.linkC = s.linkC := rfl
@[simp] theorem State.closeCycle_store : s.closeCycle.store = s.store := rfl
@[simp] theorem State.closeCycle_supervision : s.closeCycle.supervision = s.supervision := rfl
@[simp] theorem State.closeCycle_engine : s.closeCycle.engine = s.engine := rfl
@[simp] theorem State.closeCycle_health : s.closeCycle.health = s.health := rfl
@[simp] theorem State.closeCycle_linkMOut : s.closeCycle.linkMOut = s.linkMOut := rfl
@[simp] theorem State.closeCycle_linkCOut : s.closeCycle.linkCOut = s.linkCOut := rfl
@[simp] theorem State.closeCycle_tracker : s.closeCycle.tracker = s.tracker.closeCycle s.bank := rfl
@[simp] theorem State.closeCycle_bank : s.closeCycle.bank = s.bank := rfl

/-! ### What a swap completion does in each block (R126, R127) -/

variable (d : Word)

@[simp] theorem State.swapped_pending : (s.swapped d).pending = s.pending := by simp [State.swapped]
@[simp] theorem State.swapped_phase : (s.swapped d).phase = s.phase := by simp [State.swapped]
@[simp] theorem State.swapped_pins : (s.swapped d).pins = s.pins := by simp [State.swapped]
@[simp] theorem State.swapped_linkMSynced : (s.swapped d).linkMSynced = s.linkMSynced := by simp [State.swapped]
@[simp] theorem State.swapped_intake :
    (s.swapped d).intake =
      s.intake.withSources (s.store.swap d).activeBank
        (swapSources s.bank (s.store.swap d).activeBank s.intake.sources) :=
  rfl
@[simp] theorem State.swapped_ring : (s.swapped d).ring = s.ring.onSwap s.bank (s.store.swap d).activeBank := rfl
@[simp] theorem State.swapped_transform :
    (s.swapped d).transform =
      s.transform.onSwap s.bank (s.store.swap d).activeBank :=
  rfl
@[simp] theorem State.swapped_composer : (s.swapped d).composer = s.composer := by simp [State.swapped]
@[simp] theorem State.swapped_linkC : (s.swapped d).linkC = s.linkC := by simp [State.swapped]
@[simp] theorem State.swapped_store : (s.swapped d).store = s.store.swap d := rfl
@[simp] theorem State.swapped_supervision :
    (s.swapped d).supervision =
      s.supervision.onSwap s.bank (s.store.swap d).activeBank :=
  rfl
@[simp] theorem State.swapped_engine : (s.swapped d).engine = s.engine := by simp [State.swapped]
@[simp] theorem State.swapped_events : (s.swapped d).events = s.events := by simp [State.swapped]
@[simp] theorem State.swapped_health : (s.swapped d).health = s.health := by simp [State.swapped]
@[simp] theorem State.swapped_linkMOut : (s.swapped d).linkMOut = s.linkMOut := by simp [State.swapped]
@[simp] theorem State.swapped_linkCOut : (s.swapped d).linkCOut = s.linkCOut := by simp [State.swapped]
@[simp] theorem State.swapped_picks : (s.swapped d).picks = s.picks := by simp [State.swapped]
@[simp] theorem State.swapped_tracker :
    (s.swapped d).tracker =
      s.tracker.onSwap s.bank (s.store.swap d).activeBank
        (s.intake.voltage != .none && (s.swapped d).intake.voltage == .none) := rfl
@[simp] theorem State.swapped_bank : (s.swapped d).bank = (s.store.swap d).activeBank := rfl

/-- R126: the bank active after a swap is the one that was the shadow. -/
theorem TableStore.swap_activeBank (t : TableStore) : (t.swap d).activeBank = t.shadowBank := rfl

/-! ### The boundary (R52, R87, R128, R135, R145) -/

/-- R128: the audit count is the table store's whole part in a boundary's work. -/
theorem State.boundaryBlocks_store (fig : ArcFigures) (earlier : List Offer) (others : List (List Offer)) :
    (s.boundaryBlocks fig earlier others).store = s.store.auditStep (s.bank.count .auditCycles) := by
  simp only [State.boundaryBlocks, State.deliver_store, State.setStore_store]

/-- R135, R145: the boundary's work said once: the health block, then arcs and quiet timer, then the trip terms, and all
they offer at one moment. -/
theorem State.boundaryBlocks_eq (fig : ArcFigures) (earlier : List Offer) (others : List (List Offer)) :
    s.boundaryBlocks fig earlier others =
      State.deliver
        ((s.healthBoundary.setSupervision
              (s.healthBoundary.setSupervision (s.healthBoundary.arcsAndQuiet fig).1).trips.1).setStore
          (s.store.auditStep (s.bank.count .auditCycles)))
        ((earlier ++ (s.healthBoundary.arcsAndQuiet fig).2
            ++ (s.healthBoundary.setSupervision (s.healthBoundary.arcsAndQuiet fig).1).trips.2)
          :: changed .healthLow s.health.low s.healthBoundary.health.low s.tracker.cycle s.ring.lastReleased
            :: others) := by
  simp only [State.boundaryBlocks, changeOffers_cons, changeOffers_nil, List.append_nil, State.cond_healthLow,
    State.setStore_health, State.setSupervision_health, State.setSupervision_again]

/-- R52, R126: a boundary with no swap pending. -/
theorem State.takeBoundary_of_none (fig : ArcFigures) (h : s.store.pendingSwap = none) :
    s.takeBoundary fig = s.rollFlags.boundaryBlocks fig [] [s.rollOffers] := by
  simp [State.takeBoundary, h]

/-- R126, R87: a boundary with a swap pending and no change of the rolled flags. -/
theorem State.takeBoundary_of_some (fig : ArcFigures) (h : s.store.pendingSwap = some d) (hr : s.rollOffers = []) :
    s.takeBoundary fig = s.rollFlags.boundarySwap d fig [] := by
  simp [State.takeBoundary, h, hr]

/-! ### A released set with nothing between the things the blocks do with it (R35) -/

/-- R52: a cycle closed and its boundary, nothing between. -/
theorem State.endCycle_nil : s.endCycle [] = s.closeCycle.takeBoundary s.closeCycle.transform.arcFigures := by
  simp [State.endCycle, State.pause]

/-- R35: the blocks in their order. -/
theorem State.handOn_quiet (set : ReleasedSet) :
    s.handOn {} set =
      let t := s.intakeRelease set
      (t.noteReleased set).processSet {} set (heldActive set t.intake.sources != 0) := by
  simp [State.handOn, State.pause]

/-- R155: an aside serves the request at the head as its own command would. -/
theorem State.takeAside_serve {c : RequestCode} {r : Request} {rest : List Request} (h : AtHead s c r rest) :
    s.takeAside .serve = s.serve c (handlerOf c) := by
  simp [State.takeAside, State.serveHead, h.queue, h.code]

/-! ### A reset inside a write or a frame (R132, R95, R157) -/

/-- R132: whatever a reset cuts short, it leaves every block but the table store as it is. -/
theorem State.cutWrite_eq (n : Nat) : s.cutWrite n = s.setStore (s.cutWrite n).store := rfl

/-- R132: where the part handled of the list leaves the store alone, a reset that cuts it short changes nothing. -/
theorem State.cutWrite_of_store (n : Nat) (h : (s.serve .writeTable (handleList (List.take n))).store = s.store) :
    s.cutWrite n = s := by
  rw [State.cutWrite, h]; rfl

/-- R132, R95, R157: what a power-on or hard reset finds is the state with the store the cut write left, the transmit sides
cut and the free-choice counter advanced, and nothing else changed. -/
theorem State.cutOff_eq :
    s.cutOff =
      { s with
        store := (s.cutWrite (Config.entriesHandled s.picks)).store
        linkMOut := s.linkMOut.cut (Config.responseWordsSent s.picks)
        linkCOut := s.linkCOut.cut (Config.referenceWordsSent s.picks)
        picks := s.picks + 1 } := rfl

/-- What a cut keeps of the frames is the first `n` of their words. -/
theorem cutFrames_flatten (n : Nat) (fs : List (List Word)) : (cutFrames n fs).flatten = fs.flatten.take n := by
  induction fs generalizing n with
  | nil => simp [cutFrames]
  | cons f fs ih =>
    simp only [cutFrames]
    split
    · rename_i h; rw [List.flatten_cons, ih, List.flatten_cons, List.take_append, List.take_of_length_le h]
    · rename_i h
      have h0 : n - f.length = 0 := by omega
      split <;> simp_all [List.take_append]

/-- All a cut can do: the frames that have left whole stay, then at most a part of the next, neither empty nor whole. -/
theorem cutFrames_cases (n : Nat) (fs : List (List Word)) :
    ∃ m, cutFrames n fs = fs.take m
      ∨ ∃ f k, fs[m]? = some f ∧ 0 < k ∧ k < f.length ∧ cutFrames n fs = fs.take m ++ [f.take k] := by
  induction fs generalizing n with
  | nil => exact ⟨0, .inl rfl⟩
  | cons f fs ih =>
    simp only [cutFrames]
    split
    · obtain ⟨m, h | ⟨g, k, hg, h0, hk, h⟩⟩ := ih (n - f.length)
      · exact ⟨m + 1, .inl (by rw [h, List.take_succ_cons])⟩
      · exact ⟨m + 1, .inr ⟨g, k, by simpa using hg, h0, hk, by rw [h, List.take_succ_cons]; rfl⟩⟩
    · split
      · exact ⟨0, .inl rfl⟩
      · exact ⟨0, .inr ⟨f, n, rfl, by omega, by omega, rfl⟩⟩

/-- A cut that no frame falls under changes nothing. -/
@[simp] theorem cutFrames_nil (n : Nat) : cutFrames n [] = [] := rfl

end Sys2Proof.Machine
end

