-- ==== Sys2Proof/Laws/Requests.lean ====
section
/-! SUPPORT. What serving a request can do (R155, R156, R159): each shared operation of Machine/Engine.lean once. -/

namespace Sys2Proof.Machine

variable {s : State} {c : RequestCode} {op : Operation} {r : Request} {rest : List Request}

theorem Request.broadcast_iff (r : Request) : r.broadcast = true ↔ r.address = 63 := by
  simp [Request.broadcast]

/-- R155: the answer of the request at the head, as `State.ended` says it. -/
theorem State.answer_eq_ended (p : Reply) (h : s.engine.queue = r :: rest) : s.answer r p = s.ended r rest p := by
  by_cases hb : r.address = 63
  · have hr : r.broadcast = true := (Request.broadcast_iff r).2 hb
    rw [State.answer, if_pos hr, State.ended, if_pos hb, State.removeHead, h]; rfl
  · have hr : ¬r.broadcast = true := fun h => hb ((Request.broadcast_iff r).1 h)
    rw [State.answer, if_neg hr, State.ended, if_neg hb, State.removeHead, State.sendM_engine, h]; rfl

theorem State.whenRunning_of_running (f : State → State) (h : s.phase = .running) : s.whenRunning f = f s := by
  simp [State.whenRunning, h]

theorem State.whenRunning_of_not (f : State → State) (h : s.phase ≠ .running) : s.whenRunning f = s := by
  simp [State.whenRunning, h]

/-- What holds before, and after the work, holds after a command that works only while the part runs. -/
theorem State.whenRunning_keeps (P : State → Prop) (f : State → State) (h : P s) (hf : s.phase = .running → P (f s)) :
    P (s.whenRunning f) := by
  unfold State.whenRunning; split
  · next hr => exact hf hr
  · exact h

/-- R155: a service command of the code at the head serves that request. -/
theorem State.serve_of_atHead (handle : State → Request → Handled) (h : AtHead s c r rest) :
    s.serve c handle = s.serveRequest c handle r := by
  simp [State.serve, State.whenRunning, h.running, h.free, h.queue, h.code]

/-- A service command does nothing, or serves the request at the head. -/
theorem State.serve_cases (s : State) (c : RequestCode) (handle : State → Request → Handled) :
    s.serve c handle = s ∨ ∃ r rest, AtHead s c r rest ∧ s.serve c handle = s.serveRequest c handle r := by
  by_cases hp : s.phase = .running
  · cases ho : s.engine.operation with
    | some o => left; simp [State.serve, State.whenRunning, hp, ho]
    | none =>
      cases hq : s.engine.queue with
      | nil => left; simp [State.serve, State.whenRunning, hp, ho, hq]
      | cons r rest =>
        by_cases hc : RequestCode.ofWord r.code = some c
        · exact .inr ⟨r, rest, ⟨hp, ho, hq, hc⟩, State.serve_of_atHead handle ⟨hp, ho, hq, hc⟩⟩
        · left; simp [State.serve, State.whenRunning, hp, ho, hq, hc]
  · left; simp [State.serve, State.whenRunning, hp]

/-- R155, R156, R159: serving drops a broadcast that is no table request, answers what the gate refuses, or handles. -/
theorem State.serveRequest_cases (s : State) (c : RequestCode) (handle : State → Request → Handled) (r : Request) :
    (r.address = 63 ∧ c.servedBroadcast = false ∧ s.serveRequest c handle r = s.removeHead)
    ∨ (∃ o, gate s.engine.protection c = some o ∧ s.serveRequest c handle r = s.answer r (refusedReply c r o))
    ∨ (gate s.engine.protection c = none ∧ s.serveRequest c handle r = (handle s r).close r) := by
  cases hg : gate s.engine.protection c with
  | none =>
    by_cases hb : r.broadcast && !c.servedBroadcast
    · left
      simp only [Bool.and_eq_true, Bool.not_eq_true', Request.broadcast_iff] at hb
      exact ⟨hb.1, hb.2, by simp [State.serveRequest, (Request.broadcast_iff r).2 hb.1, hb.2]⟩
    · right; right; exact ⟨rfl, by simp [State.serveRequest, hb, hg]⟩
  | some o =>
    by_cases hb : r.broadcast && !c.servedBroadcast
    · left
      simp only [Bool.and_eq_true, Bool.not_eq_true', Request.broadcast_iff] at hb
      exact ⟨hb.1, hb.2, by simp [State.serveRequest, (Request.broadcast_iff r).2 hb.1, hb.2]⟩
    · right; left; exact ⟨o, rfl, by simp [State.serveRequest, hb, hg]⟩

/-- R155: what a let-through request's handling leaves, where it is not a dropped broadcast. -/
theorem State.serveRequest_of_gate (handle : State → Request → Handled) (hg : gate s.engine.protection c = none)
    (hb : r.address ≠ 63 ∨ c.servedBroadcast = true) : s.serveRequest c handle r = (handle s r).close r := by
  have : (r.broadcast && !c.servedBroadcast) = false := by
    rcases hb with hb | hb
    · have : r.broadcast = false := by rw [← Bool.not_eq_true, Request.broadcast_iff]; exact hb
      simp [this]
    · simp [hb]
  simp [State.serveRequest, this, hg]

/-- A completion finishes the operation in service. -/
theorem State.complete_of_inService (finish : State → Request → State) (h : InService s op r rest) :
    s.complete op finish = finish s r := by
  simp [State.complete, State.whenRunning, h.running, h.operation, h.queue]

/-- A completion does nothing, or finishes the operation in service. -/
theorem State.complete_cases (s : State) (op : Operation) (finish : State → Request → State) :
    s.complete op finish = s ∨ ∃ r rest, InService s op r rest ∧ s.complete op finish = finish s r := by
  by_cases hp : s.phase = .running
  · cases hq : s.engine.queue with
    | nil => left; simp [State.complete, State.whenRunning, hp, hq]
    | cons r rest =>
      by_cases ho : s.engine.operation = some op
      · exact .inr ⟨r, rest, ⟨hp, ho, hq⟩, State.complete_of_inService finish ⟨hp, ho, hq⟩⟩
      · left; simp [State.complete, State.whenRunning, hp, hq, ho]
  · left; simp [State.complete, State.whenRunning, hp]

/-! ### What an answer leaves -/

section
variable (s : State) (r : Request) (rest : List Request) (p : Reply)

@[simp] theorem State.ended_pending : (s.ended r rest p).pending = s.pending := rfl
@[simp] theorem State.ended_phase : (s.ended r rest p).phase = s.phase := rfl
@[simp] theorem State.ended_pins : (s.ended r rest p).pins = s.pins := rfl
@[simp] theorem State.ended_linkMSynced : (s.ended r rest p).linkMSynced = s.linkMSynced := rfl
@[simp] theorem State.ended_intake : (s.ended r rest p).intake = s.intake := rfl
@[simp] theorem State.ended_ring : (s.ended r rest p).ring = s.ring := rfl
@[simp] theorem State.ended_tracker : (s.ended r rest p).tracker = s.tracker := rfl
@[simp] theorem State.ended_transform : (s.ended r rest p).transform = s.transform := rfl
@[simp] theorem State.ended_composer : (s.ended r rest p).composer = s.composer := rfl
@[simp] theorem State.ended_linkC : (s.ended r rest p).linkC = s.linkC := rfl
@[simp] theorem State.ended_store : (s.ended r rest p).store = s.store := rfl
@[simp] theorem State.ended_supervision : (s.ended r rest p).supervision = s.supervision := rfl
@[simp] theorem State.ended_events : (s.ended r rest p).events = s.events := rfl
@[simp] theorem State.ended_health : (s.ended r rest p).health = s.health := rfl
@[simp] theorem State.ended_linkCOut : (s.ended r rest p).linkCOut = s.linkCOut := rfl
@[simp] theorem State.ended_picks : (s.ended r rest p).picks = s.picks := rfl
@[simp] theorem State.answer_pending : (s.answer r p).pending = s.pending := by unfold State.answer; split <;> rfl
@[simp] theorem State.answer_phase : (s.answer r p).phase = s.phase := by unfold State.answer; split <;> rfl
@[simp] theorem State.answer_pins : (s.answer r p).pins = s.pins := by unfold State.answer; split <;> rfl
@[simp] theorem State.answer_linkMSynced : (s.answer r p).linkMSynced = s.linkMSynced := by unfold State.answer; split <;> rfl
@[simp] theorem State.answer_intake : (s.answer r p).intake = s.intake := by unfold State.answer; split <;> rfl
@[simp] theorem State.answer_ring : (s.answer r p).ring = s.ring := by unfold State.answer; split <;> rfl
@[simp] theorem State.answer_tracker : (s.answer r p).tracker = s.tracker := by unfold State.answer; split <;> rfl
@[simp] theorem State.answer_transform : (s.answer r p).transform = s.transform := by unfold State.answer; split <;> rfl
@[simp] theorem State.answer_composer : (s.answer r p).composer = s.composer := by unfold State.answer; split <;> rfl
@[simp] theorem State.answer_linkC : (s.answer r p).linkC = s.linkC := by unfold State.answer; split <;> rfl
@[simp] theorem State.answer_store : (s.answer r p).store = s.store := by unfold State.answer; split <;> rfl
@[simp] theorem State.answer_supervision : (s.answer r p).supervision = s.supervision := by unfold State.answer; split <;> rfl
@[simp] theorem State.answer_events : (s.answer r p).events = s.events := by unfold State.answer; split <;> rfl
@[simp] theorem State.answer_health : (s.answer r p).health = s.health := by unfold State.answer; split <;> rfl
@[simp] theorem State.answer_linkCOut : (s.answer r p).linkCOut = s.linkCOut := by unfold State.answer; split <;> rfl
@[simp] theorem State.answer_picks : (s.answer r p).picks = s.picks := by unfold State.answer; split <;> rfl

end

end Sys2Proof.Machine
end

