-- ==== Sys2Proof/Laws/Ring.lean ====
section
/-! SUPPORT. What taking an arrival can do: the cascade is a chain of releases, each thing the blocks do with a set leaves the
part's phase, lines, management engine, responses and waiting commands alone, and what each of them and each aside keeps the
whole keeps (R29, R30, R35, R155). -/

namespace Sys2Proof.Machine

/-- Two states alike in all that the path of a sample set never touches. -/
structure SameOutside (s t : State) : Prop where
  pending : t.pending = s.pending
  phase : t.phase = s.phase
  pins : t.pins = { s.pins with mon := t.pins.mon }
  linkMSynced : t.linkMSynced = s.linkMSynced
  engine : t.engine = s.engine
  linkMOut : t.linkMOut = s.linkMOut

namespace SameOutside

theorem refl (s : State) : SameOutside s s := ⟨rfl, rfl, rfl, rfl, rfl, rfl⟩

theorem trans {s t u : State} (h : SameOutside s t) (k : SameOutside t u) : SameOutside s u :=
  ⟨k.pending.trans h.pending, k.phase.trans h.phase, by rw [k.pins, h.pins], k.linkMSynced.trans h.linkMSynced,
    k.engine.trans h.engine, k.linkMOut.trans h.linkMOut⟩

variable (s : State)

theorem noteSet (set : ReleasedSet) : SameOutside s (s.noteSet set) := ⟨rfl, rfl, rfl, rfl, rfl, rfl⟩

theorem clearWindows (ns : List (Fin 6)) : SameOutside s (s.clearWindows ns) := by
  induction ns generalizing s with
  | nil => exact refl s
  | cons n ns ih =>
    have h : SameOutside s (s.clearWindow n) := ⟨rfl, rfl, rfl, rfl, rfl, rfl⟩
    exact h.trans (ih (s.clearWindow n))

theorem intakeRelease (set : ReleasedSet) : SameOutside s (s.intakeRelease set) :=
  let k := clearWindows (s.setIntake (s.intake.withSources s.bank (nextSources s.bank set s.intake.sources)))
    (lostFeeders s.bank s.intake.sources (nextSources s.bank set s.intake.sources))
  ⟨k.pending, k.phase, k.pins, k.linkMSynced, k.engine, k.linkMOut⟩

theorem track (count : Nat) (v : Option Phases) : SameOutside s (s.track count v) := ⟨rfl, rfl, rfl, rfl, rfl, rfl⟩

theorem feedWindows (i : Nat) (v : Vector (Option Phases) 6) : SameOutside s (s.feedWindows i v) :=
  ⟨rfl, rfl, rfl, rfl, rfl, rfl⟩

theorem compose (count : Nat) (out : Composed) : SameOutside s (s.compose count out) := ⟨rfl, rfl, rfl, rfl, rfl, rfl⟩

theorem sendC (frame : List Word) : SameOutside s (s.sendC frame) := ⟨rfl, rfl, rfl, rfl, rfl, rfl⟩

theorem leaveC : SameOutside s s.leaveC := ⟨rfl, rfl, rfl, rfl, rfl, rfl⟩

theorem countStale (count : Nat) : SameOutside s (s.countStale count) := ⟨rfl, rfl, rfl, rfl, rfl, rfl⟩

theorem deliver (g : List (List Offer)) : SameOutside s (s.deliver g) := ⟨rfl, rfl, rfl, rfl, rfl, rfl⟩

theorem swapped (d : Word) : SameOutside s (s.swapped d) := by
  constructor <;>
    simp only [State.swapped, State.setSupervision_pending, State.setSupervision_phase, State.setSupervision_pins,
      State.setSupervision_linkMSynced, State.setSupervision_engine, State.setSupervision_linkMOut] <;> rfl

theorem swapTables (d : Word) : SameOutside s (s.swapTables d) := (swapped s d).trans (deliver _ _)

theorem healthBoundary : SameOutside s s.healthBoundary := ⟨rfl, rfl, rfl, rfl, rfl, rfl⟩

theorem setSupervision (x : Supervision) : SameOutside s (s.setSupervision x) := ⟨rfl, rfl, rfl, rfl, rfl, rfl⟩

theorem setStore (x : TableStore) : SameOutside s (s.setStore x) := ⟨rfl, rfl, rfl, rfl, rfl, rfl⟩

theorem boundaryBlocks (fig : ArcFigures) (e : List Offer) (o : List (List Offer)) :
    SameOutside s (s.boundaryBlocks fig e o) :=
  (healthBoundary s).trans ((setSupervision _ _).trans ((setSupervision _ _).trans ((setStore _ _).trans (deliver _ _))))

theorem boundarySwap (d : Word) (fig : ArcFigures) (roll : List Offer) : SameOutside s (s.boundarySwap d fig roll) :=
  (swapTables s d).trans (boundaryBlocks _ _ _ _)

theorem takeBoundary (fig : ArcFigures) : SameOutside s (s.takeBoundary fig) := by
  have h : SameOutside s s.rollFlags := ⟨rfl, rfl, rfl, rfl, rfl, rfl⟩
  have hs : ∀ e n, SameOutside s (s.rollFlags.setEvents e n) := fun _ _ => ⟨rfl, rfl, rfl, rfl, rfl, rfl⟩
  unfold State.takeBoundary
  split
  · exact h.trans (boundaryBlocks _ _ _ _)
  · split
    · exact h.trans (boundarySwap _ _ _ _)
    · simp only
      split
      · exact (hs _ _).trans (boundarySwap _ _ _ _)
      · exact (hs _ _).trans ((deliver _ _).trans (boundarySwap _ _ _ _))

theorem closeCycle : SameOutside s s.closeCycle := ⟨rfl, rfl, rfl, rfl, rfl, rfl⟩

theorem setRing (x : Ring) : SameOutside s (s.setRing x) := ⟨rfl, rfl, rfl, rfl, rfl, rfl⟩

theorem countHealth (a : Attribute) (n : Nat) : SameOutside s (s.countHealth a n) := ⟨rfl, rfl, rfl, rfl, rfl, rfl⟩

theorem noteReleased (set : ReleasedSet) : SameOutside s (s.noteReleased set) := ⟨rfl, rfl, rfl, rfl, rfl, rfl⟩

end SameOutside

/-! ### The places inside an arrival (R155, R168) -/

section Pause

variable (s : State)

/-- With nothing at a place the handling goes on. -/
@[simp] theorem State.pause_nil (go : State → State) : s.pause [] go = go s := by simp [State.pause]

/-- What every aside keeps, a list of them keeps. -/
theorem State.asides_keep (P : State → Prop) (h : ∀ (t : State) (x : Aside), P t → P (t.takeAside x)) (xs : List Aside)
    (hs : P s) : P (xs.foldl State.takeAside s) := by
  induction xs generalizing s with
  | nil => exact hs
  | cons x xs ih => exact ih _ (h s x hs)

/-- What every aside and the rest of the handling keep, a place with the rest of the handling keeps. -/
theorem State.pause_keeps (P : State → Prop) (h : ∀ (t : State) (x : Aside), P t → P (t.takeAside x)) (xs : List Aside)
    (go : State → State) (hgo : ∀ t : State, P t → P (go t)) (hs : P s) : P (s.pause xs go) := by
  unfold State.pause
  simp only
  split
  · exact hgo _ (State.asides_keep s P h xs hs)
  · exact State.asides_keep s P h xs hs

/-- R95: what the beginning and the end of a frame's sending, each aside and the rest of the handling keep, a frame sent with
the rest of the handling keeps: the form in which a `KeptBySets` gets its `send` for what holds also while a frame is sent. -/
theorem State.send_keeps (P : State → Prop) (h : ∀ (t : State) (x : Aside), P t → P (t.takeAside x))
    (hsend : ∀ (t : State) (frame : List Word), P t → P (t.sendC frame)) (hleave : ∀ t : State, P t → P t.leaveC)
    (frame : List Word) (xs : List Aside) (go : State → State) (hs : P s) (hgo : ∀ u, P u → P (go u)) :
    P ((s.sendC frame).pause xs fun u => go u.leaveC) :=
  State.pause_keeps _ P h xs _ (fun t ht => hgo _ (hleave t ht)) (hsend s frame hs)

end Pause

/-- What each thing the blocks do with a released set keeps, and each aside between two of them (R29, R35, R52, R95). -/
structure KeptBySets (P : State → Prop) : Prop where
  aside : ∀ (t : State) (x : Aside), P t → P (t.takeAside x)
  noteSet : ∀ (t : State) (set : ReleasedSet), P t → P (t.noteSet set)
  intakeRelease : ∀ (t : State) (set : ReleasedSet), P t → P (t.intakeRelease set)
  noteReleased : ∀ (t : State) (set : ReleasedSet), P t → P (t.noteReleased set)
  track : ∀ (t : State) (count : Nat) (v : Option Phases), P t → P (t.track count v)
  feedWindows : ∀ (t : State) (i : Nat) (v : Vector (Option Phases) 6), P t → P (t.feedWindows i v)
  compose : ∀ (t : State) (count : Nat) (out : Composed), P t → P (t.compose count out)
  send : ∀ (t : State) (frame : List Word) (xs : List Aside) (go : State → State), P t → (∀ u, P u → P (go u)) →
    P ((t.sendC frame).pause xs fun u => go u.leaveC)
  countStale : ∀ (t : State) (count : Nat), P t → P (t.countStale count)
  closeCycle : ∀ t : State, P t → P t.closeCycle
  takeBoundary : ∀ (t : State) (fig : ArcFigures), P t → P (t.takeBoundary fig)
  advance : ∀ t : State, P t → P (t.setRing (t.ring.advance t.bank.modulus))

namespace KeptBySets

variable {P : State → Prop} (k : KeptBySets P) {s : State}
include k

theorem pause (xs : List Aside) (go : State → State) (hgo : ∀ t : State, P t → P (go t)) (h : P s) : P (s.pause xs go) :=
  s.pause_keeps P k.aside xs go hgo h

theorem endCycle (xs : List Aside) (h : P s) : P (s.endCycle xs) :=
  k.pause xs _ (fun t ht => k.takeBoundary t _ ht) (k.closeCycle s h)

theorem sendSet (x : SetAsides) (count : Nat) (out : Composed) (heldUsed ends : Bool) (h : P s) :
    P (s.sendSet x count out heldUsed ends) := by
  refine k.send s _ _ (fun t => (t.countStale count).pause x.sent _) h fun t ht => ?_
  refine k.pause _ _ (fun u hu => ?_) (k.countStale t count ht)
  split
  · exact k.endCycle _ hu
  · exact hu

theorem processSet (x : SetAsides) (set : ReleasedSet) (heldUsed : Bool) (h : P s) : P (s.processSet x set heldUsed) := by
  unfold State.processSet
  refine k.pause _ _ (fun t ht => ?_) (k.track s _ _ h)
  refine k.pause _ _ (fun u hu => ?_) (k.feedWindows t _ _ ht)
  exact k.pause _ _ (fun _ hv => k.sendSet x _ _ _ _ hv) (k.compose u _ _ hu)

theorem handOn (x : SetAsides) (set : ReleasedSet) (h : P s) : P (s.handOn x set) :=
  k.pause _ _ (fun t ht => k.pause _ _ (fun _ hu => k.processSet x set _ hu) (k.noteReleased t set ht))
    (k.intakeRelease s set h)

theorem releaseSet (x : SetAsides) (h : P s) : P (s.releaseSet x) :=
  k.pause _ _ (fun _ ht => k.handOn x _ ht) (k.noteSet s _ h)

/-- R29, R30: what every thing the blocks do with a set keeps, the cascade keeps. -/
theorem cascade (fuel : Nat) (sets : List SetAsides) (d : Option Nat) (h : P s) : P (s.cascade fuel sets d) := by
  induction fuel generalizing sets d s with
  | zero => exact h
  | succ n ih =>
    unfold State.cascade
    split
    · have h1 := k.pause (sets.headD {}).checked _ (fun t ht => k.releaseSet (sets.headD {}) ht) h
      simp only
      split
      · exact ih _ _ (k.advance _ h1)
      · exact h1
    · exact h

end KeptBySets

/-- The four things the ring can do with an arrival (R20 to R24). -/
theorem State.takeArrival_cases (s : State) (sets : List SetAsides) (a : Arrival) :
    (s.ring.synced = false ∧ s.takeArrival sets a = (s.setRing (s.ring.startAt a)).cascade 16 sets (some 0))
    ∨ (s.ring.synced = true ∧ ∃ h : s.ring.distance s.bank.modulus a.count < 16,
        s.takeArrival sets a = s.arriveInside sets a ⟨s.ring.distance s.bank.modulus a.count, h⟩)
    ∨ (s.ring.synced = true ∧ 16 ≤ s.ring.distance s.bank.modulus a.count
        ∧ s.ring.distance s.bank.modulus a.count < s.bank.modulus / 2 ∧ s.takeArrival sets a = s.arriveAhead sets a)
    ∨ (s.ring.synced = true ∧ 16 ≤ s.ring.distance s.bank.modulus a.count
        ∧ s.bank.modulus / 2 ≤ s.ring.distance s.bank.modulus a.count ∧ s.takeArrival sets a = s.arriveBehind) := by
  cases hs : s.ring.synced with
  | false => exact .inl ⟨rfl, by simp [State.takeArrival, hs]⟩
  | true =>
    refine .inr ?_
    by_cases h : s.ring.distance s.bank.modulus a.count < 16
    · exact .inl ⟨rfl, h, by simp [State.takeArrival, hs, h]⟩
    · by_cases k : s.ring.distance s.bank.modulus a.count < s.bank.modulus / 2
      · exact .inr (.inl ⟨rfl, by omega, k, by simp [State.takeArrival, hs, h, k]⟩)
      · exact .inr (.inr ⟨rfl, by omega, by omega, by simp [State.takeArrival, hs, h, k]⟩)

end Sys2Proof.Machine
end

