-- ==== Sys2Proof/WellFormed.lean ====
section
/-! DEFINITION. When the words a frame command carries are a frame of its row's kind (R2, R100, R190). -/

namespace Sys2Proof

/-- A command whose frame the ports judge as the command's row says. A row without a frame is always well formed. -/
def Instr.wf : Instr → Bool
  | .malformedFrame frame => Machine.judgeLinkM frame == .malformed
  | .sampleFrame frame => Machine.judgeLinkM frame == .sample (Machine.readSampleFields frame)
  | .requestFrame frame => Machine.judgeLinkM frame == .request (Machine.readRequest frame)
  | .converterStatusFrame frame => (Machine.judgeLinkC frame).isSome
  | .linkCMalformedFrame frame => (Machine.judgeLinkC frame).isNone
  | _ => true

end Sys2Proof
end

