-- ==== Sys2Proof/Tests/Slice0.lean ====
section
/-! SUPPORT. Tests: the smoke of the well-formedness checks, the spec's worked examples, one or two small tests per command,
and the witnesses of the statements that have hypotheses. -/

namespace Sys2Proof.Tests

set_option Elab.async false

open Sys2Proof Sys2Proof.Machine

/-! ### States for the tests -/

/-- What a command leaves. -/
def after (c : Instr) (s : State) : State :=
  match exec c s with
  | .next t => t
  | _ => s

/-- A bank with a voltage source 0, a standby 1 and a feeder source 2 on feeder 0 (hold limit 2, RECOVER_SETS 2), WINDOW 32
and a wake-enabled FULL profile. -/
def siteBank : Bank :=
  ((((((Bank.factory.setEntry .source 0 [0x0400, 0x8000, 1000, 0x1102]).setEntry .source 1
    [0x0401, 0x9000, 1000, 0x1102]).setEntry .source 2 [0x0410, 0xA000, 1000, 0x1102]).setEntry .profile 0
      [0xC003, 0x0100, 0x0333, 0x019A]).setEntry .control 1 [0]).setEntry .control 18 [2]).setEntry .control 14 [3]

/-- A running part at station address 5 under `siteBank`, its receivers synchronised and CBLK low. -/
def site : State :=
  { State.reset with
    pins := { State.reset.pins with cblk := false, addr := 5 }
    linkMSynced := true
    store := { TableStore.initialised with bank0 := siteBank, recorded := siteBank.digest }
    intake := Intake.afterReset siteBank
    transform := Transform.afterReset siteBank
    linkC := LinkC.afterReset siteBank false true
    engine := Engine.afterReset 5 }

/-- A request of a code, to station address 5. -/
def request (code : Word) (params : List Word) : Request := ⟨5, 7, code, 0, 0, params⟩

/-- A part with one request waiting, in a protection state. -/
def waiting (p : Protection) (r : Request) : State :=
  { site with
    engine :=
      { site.engine with
        queue := [r]
        protection := p
        code := if p = .opened then none else some 0x1A2B3C4D } }

/-- A part with an operation in service for its request. -/
def serving (op : Operation) (r : Request) : State :=
  let s := waiting .opened r
  { s with engine := { s.engine with operation := some op } }

/-- A part with a swap pending. -/
def swapping (s : State) : State := { s with store := { s.store with pendingSwap := some 1 } }

/-- The outcome word of the last response sent. -/
def outcome (s : State) : Nat := (frameWord (s.linkMOut.handed.getLastD []) 4).toNat

/-- Word `n` of the last response sent. -/
def answerWord (n : Nat) (s : State) : Word := frameWord (s.linkMOut.handed.getLastD []) n

/-- A sample frame of source 0's stream. -/
def sample (count : Nat) : SampleFields := ⟨0x0400, count, true, true, ⟨1234567, 3, -4000000⟩⟩

/-! ### Well-formedness -/

theorem test_wf_refuses_a_good_frame_as_malformed : Instr.wf (.malformedFrame (sample 7).frame) = false := by
  decide +kernel

theorem test_wf_refuses_a_request_as_sample : Instr.wf (.sampleFrame (request 1 []).frame) = false := by
  decide +kernel

theorem test_wf_refuses_a_sample_as_request : Instr.wf (.requestFrame (sample 7).frame) = false := by
  decide +kernel

theorem test_wf_refuses_a_sample_on_link_c : Instr.wf (.converterStatusFrame (sample 7).frame) = false := by
  decide +kernel

theorem test_wf_refuses_a_good_status_as_malformed :
    Instr.wf (.linkCMalformedFrame (ConverterStatus.frame ⟨5000, false, false, 0⟩)) = false := by
  decide +kernel

theorem test_wf_takes_each_kind :
    (Instr.wf (.malformedFrame [0x0A01, 12]) && Instr.wf (.sampleFrame (sample 7).frame)
      && Instr.wf (.requestFrame (request 1 []).frame)
      && Instr.wf (.converterStatusFrame (ConverterStatus.frame ⟨5000, false, false, 0⟩))
      && Instr.wf (.linkCMalformedFrame [0x0C02, 6])) = true := by
  decide +kernel

/-! ### Worked examples of the spec -/

/-- spec/00, "Rounded shift". -/
theorem test_rounded_shift : roundedShift 6 2400 = 38 ∧ roundedShift 6 (-2400) = -38
    ∧ roundedShift 13 (-16324674) = -1993 := by
  decide +kernel

/-- spec/01, "Worked example: scaling". -/
theorem test_scaling :
    (readSourceRecord 0 0x8000 1000 0x1102).shift = 17
      ∧ scalePhases (readSourceRecord 0 0x8000 1000 0x1102) ⟨1234567, 3, -4000000⟩ = ⟨9419, 0, -30518⟩
      ∧ scalePhases (readSourceRecord 0 0x8000 1000 0x1002) ⟨1234567, 3, -4000000⟩ = ⟨18838, 0, -32767⟩
      ∧ saturations (readSourceRecord 0 0x8000 1000 0x1002) ⟨1234567, 3, -4000000⟩ = 1
      ∧ scalePhases (readSourceRecord 0 0x8000 1 0x0102) ⟨3, -3, 0⟩ = ⟨2, -2, 0⟩ := by
  decide +kernel

/-- spec/07, "Worked example: digest of four words". -/
theorem test_digest_of_four_words : digest [0x8001, 0x0002, 0xFFFF, 0x0010] = 0x0022 := by decide +kernel

/-- spec/07, "Worked example: writes to the shadow": the SINE load that wraps. -/
theorem test_write_sine_wraps :
    let w := writeEntries .sine 250 Bank.factory (List.replicate 10 [0x0123])
    w.outcome = .ok ∧ nextIndex .sine 250 w.written = 4 ∧ w.bank.entry .sine 3 = [0x0123]
      ∧ w.bank.entry .sine 4 = Bank.factory.entry .sine 4 := by
  decide +kernel

/-- spec/07, the SOURCE write past the end. -/
theorem test_write_source_past_the_end :
    let w := writeEntries .source 6 Bank.factory [[1, 0xA000, 0, 1], [2, 0xA001, 5, 1], [3, 0xA002, 5, 1]]
    w.outcome = .partialEnd ∧ nextIndex .source 6 w.written = 8 ∧ w.bank.entry .source 6 = [1, 0xA000, 1, 1] := by
  decide +kernel

/-- spec/07, the PROFILE write with an undefined mode. -/
theorem test_write_profile_undefined_mode :
    let w := writeEntries .profile 2 Bank.factory [[1, 256, 819, 410], [4, 256, 819, 410], [1, 256, 819, 410]]
    w.outcome = .badValue ∧ nextIndex .profile 2 w.written = 3 ∧ w.bank.entry .profile 2 = [1, 256, 819, 410] := by
  decide +kernel

/-- spec/04, "Worked example: rotation of one set". -/
theorem test_rotation_of_one_set :
    let w := (Window.cleared 64).feed 64 (clarkeAlpha 6000 (-1000) (-5000)) (clarkeBeta (-1000) (-5000))
      (Bank.factory.sine 32) (Bank.factory.cosine 32)
    (w.idPos.sum, w.iqPos.sum, w.idNeg.sum, w.iqNeg.sum, w.fill) = (5876, -2610, 2610, 5876, 1) := by
  decide +kernel

/-- spec/03, "Worked example: one set of the loop". -/
theorem test_one_set_of_the_loop :
    let t := { Tracker.afterReset with phase := 65000, integrator := 1280, locked := true }.handle Bank.factory
      (some ⟨8000, -4251, -3749⟩)
    t.2 = true
      ∧ (t.1.vd, t.1.vq, t.1.integrator, t.1.phase, t.1.locked, t.1.unlockRun) = (8000, 300, 1318, 512, true, 0) := by
  decide +kernel

/-- spec/03, "Worked example: closing a cycle". -/
theorem test_closing_a_cycle :
    let t := { Tracker.afterReset with
      cycleSum := 497100, cycleSets := 62, lastMean := some 8105, cycle := 1406 }.closeCycle Bank.factory
    (t.lastMean, t.lastStep, t.overvoltage, t.cycle, t.cycleSets) = (some 8017, some 88, false, 1407, 0) := by
  decide +kernel

/-- spec/05, "Worked example: a composed set", from its sums on. -/
theorem test_composed_set :
    let b := ((Bank.factory.setEntry .control 7 [4000]).setEntry .control 8 [signedWord (-1500)]).setEntry .control 9 [4]
    let d := limitDemand b false false 5000 3000 (-600) 800
    (d.imax, d.qc, d.ndr, d.nqr, d.qClamped, d.nScaled) = (4000, 3000, -545, 727, false, true)
      ∧ computedReferences b 28 d = ⟨-1993, 3613, -1620⟩ ∧ quietReferences b 28 d = ⟨1061, -1449, 388⟩ := by
  decide +kernel

/-- spec/10, "Worked example: one health interval", its last boundary. -/
theorem test_health_interval :
    let h := Health.endInterval
      { Health.afterReset with
        raw := ⟨#[37, 1000, 120, 36, 3], rfl⟩
        value := ⟨#[240, 253, 215, 251, 253], rfl⟩
        worst := ⟨#[236, 253, 210, 251, 253], rfl⟩
        threshold := ⟨#[0, 0, 200, 230, 0], rfl⟩ }
    h.value.toList = [235, 191, 193, 244, 252] ∧ h.worst.toList = [235, 191, 193, 244, 252] ∧ h.low = true := by
  decide +kernel

/-- spec/08, "Worked example: arc qualification", the column of each boundary. -/
theorem test_arc_qualification :
    ([900, 700, 1250, 7181, 600, 300, 500, 320, 150] : List Int).foldl
        (fun l a => l ++ [(l.getLastD ArcState.dark).next (siteBank.profile 0) a]) ([] : List ArcState) =
      [.pendingOn, .dark, .pendingOn, .burning, .burning, .pendingOff, .burning, .pendingOff, .dark] := by
  decide +kernel

/-! ### Commands -/

theorem test_power_on_holds :
    (after .powerOn site).supervision.trip = false ∧ (after .powerOn site).phase = .heldPowerOn := by
  decide +kernel

/-- R168: RESET_N low during the hold of a power-on makes no hard reset. -/
theorem test_hard_reset_during_power_on :
    (after .hardReset (after .powerOn site)).phase = .heldPowerOn
      ∧ (after .hardReset (after .powerOn site)).pins.resetN = false := by
  decide +kernel

/-- R132: a hard reset two entries into a WRITE_TABLE of three: the shadow keeps two of them, no response is sent. -/
theorem test_hard_reset_inside_a_write :
    let t := (waiting .opened ⟨5, 7, 4, 1, 10, [1, 2, 3]⟩).cutWrite 2
    t.store.bank1.entry .sine 10 = [1] ∧ t.store.bank1.entry .sine 11 = [2]
      ∧ t.store.bank1.entry .sine 12 = Bank.factory.entry .sine 12 ∧ t.linkMOut.handed = [] := by
  decide +kernel

/-- R168, R170: a hard reset whose self-test finds another digest loads factory contents. -/
theorem test_self_test_reinitialises :
    let s := { site with store := { site.store with recorded := 1 } }
    let t := after .selfTest (after (.resetHoldEnd .resetLineHigh 9) (after .hardReset s))
    t.store.bank0.entry .source 0 = Bank.factory.entry .source 0 ∧ t.engine.address = 9
      ∧ t.events.queue = [⟨.reset .hard .banksReinit, 0, none⟩] := by
  decide +kernel

/-- R169: a soft reset keeps the trip line and the queue behind it. -/
theorem test_soft_reset_keeps :
    let s := serving .softReset (request 0x11 [])
    let t := after .softReset { s with supervision := { s.supervision with trip := true } }
    t.supervision.trip = true ∧ outcome t = 0 ∧ t.engine.queue = [] ∧ t.events.queue.length = 2 := by
  decide +kernel

theorem test_reset_controller_in_locked :
    outcome (after .resetController (waiting .locked (request 0x11 []))) = 5 := by decide +kernel

/-- R4: a frame cut off by loss of signal is counted. -/
theorem test_loss_of_signal_mid_frame :
    let t := after (.lossOfSignal .m true) site
    t.intake.counters.malformed = 1 ∧ t.linkMSynced = false
      ∧ t.events.queue.getLast? = some ⟨.link .m false, 0, none⟩ := by
  decide +kernel

theorem test_sync_regained_on_link_c :
    (after (.syncRegained .c) State.reset).events.queue.getLast? = some ⟨.link .c true, 0, none⟩ := by
  decide +kernel

/-- R2: a bad check word is counted once. -/
theorem test_malformed_frame_counts_once :
    (after (.malformedFrame ((sample 7).frame.dropLast ++ [0])) site).intake.counters.malformed = 1 := by
  decide +kernel

/-- R5: a count of M is malformed. -/
theorem test_sample_count_of_modulus :
    (after (.sampleFrame (sample 3200).frame) site).intake.counters.malformed = 1
      ∧ (after (.sampleFrame (sample 3199).frame) site).ring.waiting
          = [⟨0, 3199, ⟨⟨9419, 0, -30518⟩, true⟩⟩] := by
  decide +kernel

/-- R20: the first arrival sets the base. -/
theorem test_first_arrival_synchronises :
    let t := after (.arrival [{ fed := [.monStraps 3] }]) (after (.sampleFrame (sample 100).frame) site)
    t.ring.synced = true ∧ t.ring.base = 100 ∧ t.ring.waiting = [] ∧ t.linkCOut.sent = [] ∧ t.pins.mon = 7 := by
  decide +kernel

/-- R98: the straps change before each of the two frames one arrival's cascade builds. -/
theorem test_straps_change_within_a_cascade :
    let put (s : State) (n : Nat) : State := after (.arrival [{ noted := [.monStraps 2] }, { composed := [.monStraps 5] }]) (after (.sampleFrame (sample n).frame) s)
    let t := [100, 104].foldl put site
    t.linkCOut.sent.map (fun f => frameWord f 7) = [0x0102, 0x0105] ∧ t.ring.base = 102 ∧ t.pins.mon = 5 := by
  decide +kernel

/-- R28, R29: with a release lag of 3 the fourth arrival of one source releases the first set, sent as BLOCKED. -/
theorem test_lag_releases_a_set :
    let put (s : State) (n : Nat) : State := after (.arrival []) (after (.sampleFrame (sample n).frame) s)
    let t := [100, 101, 102, 103].foldl put site
    t.ring.base = 101 ∧ t.ring.lastReleased = some 100 ∧ t.intake.counters.held = 2 ∧ t.linkCOut.sent.length = 1
      ∧ frameWord (t.linkCOut.sent.headD []) 2 = 100 ∧ bitField 0 8 (frameWord (t.linkCOut.sent.headD []) 3) = 2 := by
  decide +kernel

/-- R155, R72: an INJECT served after a set's snapshot finds the set BLOCKED as composed; one served before it is sent. -/
theorem test_request_between_snapshot_and_frame :
    let put (x : SetAsides) (s : State) (n : Nat) : State :=
      after (.arrival [x]) (after (.sampleFrame (sample n).frame) s)
    let s := waiting .opened (request 13 [0, 1, 0, 2, 0, 3, 0])
    let t := [100, 101, 102, 103].foldl (put { composed := [.serve] }) s
    let u := [100, 101, 102, 103].foldl (put { fed := [.serve] }) s
    t.composer.injActive = true ∧ t.linkCOut.sent.map (fun f => bitField 0 8 (frameWord f 3)) = [2] ∧ t.linkMOut.handed.length = 1
      ∧ u.linkCOut.sent.map (fun f => bitField 0 8 (frameWord f 3)) = [1] ∧ u.linkCOut.sent.map (fun f => frameWord f 6) = [3] := by
  decide +kernel

/-- R168: a hard reset between a set's snapshot and its frame abandons the arrival: no frame is sent. -/
theorem test_reset_inside_an_arrival :
    let put (s : State) (n : Nat) : State :=
      after (.arrival [{ composed := [.hardReset, .serve], sent := [.powerOn] }]) (after (.sampleFrame (sample n).frame) s)
    let t := [100, 101, 102, 103].foldl put site
    t.phase = .heldHard ∧ t.linkCOut.sent = [] ∧ t.ring.synced = false ∧ t.ring.lastReleased = none := by
  decide +kernel

/-- R95: a hard reset while the reference frame is being sent: what has left of it is free, nothing is sent any more and the
stale count of the set is not made. -/
theorem test_reset_while_a_frame_is_sent :
    let put (s : State) (n : Nat) : State :=
      after (.arrival [{ framed := [.hardReset] }]) (after (.sampleFrame (sample n).frame) s)
    let t := [100, 101, 102, 103].foldl put site
    t.phase = .heldHard ∧ t.linkCOut.handed = [] ∧ t.ring.synced = false ∧ t.composer.lastSource = none := by
  decide +kernel

/-- R95: a reset of a transmitter that holds two frames: the first words stay sent, the rest is not. -/
theorem test_reset_cuts_a_frame_off :
    let x : Transmitter := ⟨[[1, 2], [3, 4, 5]], [[0]]⟩
    x.cut 3 = ⟨[], [[0], [1, 2], [3]]⟩ ∧ x.cut 2 = ⟨[], [[0], [1, 2]]⟩ ∧ x.cut 9 = ⟨[], [[0], [1, 2], [3, 4, 5]]⟩
      ∧ x.cut 0 = ⟨[], [[0]]⟩ := by
  decide +kernel

/-- R101, R104: a status frame with the thermal warning. -/
theorem test_status_frame_with_warning :
    let t := after (.converterStatusFrame (ConverterStatus.frame ⟨5000, true, false, 9⟩)) site
    t.linkC.capability = 5000 ∧ t.linkC.stale = false ∧ t.linkC.derate = true ∧ t.linkC.faultCode = 9 := by
  decide +kernel

theorem test_link_c_malformed_frame : (after (.linkCMalformedFrame [0x0C01, 2]) site).intake.counters.malformed = 1 := by
  decide +kernel

/-- R102: a rising edge blocks at once, and the factory REPORT table records it. -/
theorem test_cblk_edge_blocks :
    (after (.cblkEdge true) site).linkC.isBlocked = true
      ∧ (after (.cblkEdge true) site).events.queue.getLast? = some ⟨.condition .converterBlocked true, 0, none⟩ := by
  decide +kernel

/-- R129: an audit that finds another digest turns TABLE_FAULT on. -/
theorem test_audit_finds_a_mismatch :
    let s := { site with store := { site.store with auditInFlight := true, recorded := 1 } }
    (after .auditCompletion s).store.tableFault = true ∧ (after .auditCompletion s).store.auditInFlight = false := by
  decide +kernel

theorem test_pulse_ends :
    let s := { site with
      engine := { site.engine with attention := .pulsed }, events := ⟨[], false, true, some 100⟩ }
    (after .attentionPulseEnd s).events.line = false := by
  decide +kernel

/-- R154: a request for this part queues; one for another part does not. -/
theorem test_request_frame_queues :
    (after (.requestFrame (request 1 []).frame) site).engine.queue = [request 1 []]
      ∧ (after (.requestFrame ({ request 1 [] with address := 6 } : Request).frame) site).engine.queue = [] := by
  decide +kernel

/-- R166 and the response layout: ECHO answers 0x005A, 0x3C96. -/
theorem test_echo :
    let t := after .echo (waiting .frozen (request 1 []))
    t.linkMOut.handed.length = 1 ∧ answerWord 2 t = 0x0705 ∧ outcome t = 0 ∧ answerWord 8 t = 0x005A ∧ answerWord 9 t = 0x3C96 := by
  decide +kernel

theorem test_read_status_length :
    frameWord ((after .readStatus (waiting .opened (request 2 []))).linkMOut.handed.headD []) 1 = 38 := by decide +kernel

/-- R120: READ_TABLE past the end of REPORT. -/
theorem test_read_table_partial :
    let t := after .readTable (waiting .locked ⟨5, 7, 3, 6, 14, [0, 3]⟩)
    outcome t = 2 ∧ answerWord 6 t = 15 ∧ answerWord 7 t = 2 ∧ answerWord 8 t = 1 := by
  decide +kernel

theorem test_write_table_goes_to_the_shadow :
    let t := after .writeTable (waiting .opened ⟨5, 7, 4, 4, 8, [0x8000]⟩)
    outcome t = 1 ∧ t.store.bank1.entry .control 8 = [0x8001] ∧ t.store.bank0.entry .control 8 = siteBank.entry .control 8 := by
  decide +kernel

theorem test_clone_copies :
    let t := after .cloneCompletion (after .clone (waiting .opened (request 5 [])))
    outcome t = 0 ∧ t.store.bank1.entry .source 2 = siteBank.entry .source 2 ∧ answerWord 8 t = siteBank.digest := by
  decide +kernel

/-- R122, R126: a commit with the shadow's digest swaps at once while the ring is UNSYNCED. -/
theorem test_commit_swaps_at_once :
    let t := after .commitCompletion (after .commitSwap (waiting .opened (request 6 [Bank.factory.digest])))
    outcome t = 0 ∧ t.store.active = 1 ∧ t.store.pendingSwap = none
      ∧ t.events.queue.contains ⟨.swap 1, 0, none⟩ = true := by
  decide +kernel

theorem test_commit_with_another_digest :
    let t := after .commitCompletion (after .commitSwap (waiting .opened (request 6 [1])))
    outcome t = 9 ∧ t.store.active = 0 := by
  decide +kernel

theorem test_cancel_swap :
    outcome (after .cancelSwap (swapping (waiting .opened (request 7 [])))) = 0
      ∧ outcome (after .cancelSwap (waiting .opened (request 7 []))) = 8 := by
  decide +kernel

theorem test_read_events_empties :
    let t := after .readEvents (waiting .opened (request 8 [8]))
    t.events.queue = [] ∧ t.events.line = false ∧ answerWord 8 t = 1 ∧ answerWord 11 t = 0x8001 := by
  decide +kernel

theorem test_read_health : answerWord 8 (after .readHealth (waiting .opened (request 9 []))) = 253 := by decide +kernel

theorem test_set_monitor :
    (after .setMonitor (waiting .frozen (request 10 [4]))).engine.monitor = .quantity 4
      ∧ outcome (after .setMonitor (waiting .opened (request 10 [16]))) = 3 := by
  decide +kernel

theorem test_wake_clears_the_timer :
    let s := waiting .opened (request 11 [])
    let t := after .wake { s with supervision := { s.supervision with quiet := true, quietTimer := 3 } }
    t.supervision.quiet = false ∧ t.supervision.quietTimer = 0 := by
  decide +kernel

theorem test_clear_trip :
    let s := waiting .frozen (request 12 [])
    (after .clearTrip { s with supervision := { s.supervision with trip := true } }).supervision.trip = false := by
  decide +kernel

/-- R194: −40000, sent as 0x00FF, 0x63C0, is stored as −32767 with outcome CLAMPED. -/
theorem test_inject_clamps :
    let t := after .inject (waiting .opened (request 13 [0x00FF, 0x63C0, 0, 5, 0, 6, 2]))
    outcome t = 1 ∧ t.composer.injValues = ⟨-32767, 5, 6⟩ ∧ t.composer.injRemaining = 2 := by
  decide +kernel

theorem test_inject_clear :
    (after .injectClear { waiting .locked (request 14 []) with
      composer := { Composer.afterReset with injActive := true, injRemaining := 2 } }).composer.injActive = false := by
  decide +kernel

theorem test_set_threshold :
    (after .setThreshold (waiting .opened (request 15 [5, 253]))).health.low = true
      ∧ outcome (after .setThreshold (waiting .opened (request 15 [5, 254]))) = 3 := by
  decide +kernel

theorem test_set_attention_mode :
    let t := after .setAttentionMode (waiting .opened (request 16 [1]))
    t.engine.attention = .pulsed ∧ t.events.line = false ∧ answerWord 8 t = 1 := by
  decide +kernel

theorem test_set_code :
    let t := after .setCode (waiting .opened (request 18 [0x1A2B, 0x3C4D]))
    t.engine.code = some 0x1A2B3C4D ∧ bitField 0 2 (answerWord 5 t) = 1 := by
  decide +kernel

theorem test_clear_code :
    (after .clearCode (waiting .unlocked (request 19 []))).engine.protection = .opened
      ∧ outcome (after .clearCode (waiting .opened (request 19 []))) = 11 := by
  decide +kernel

/-- spec/09, "Worked example: UNLOCK to expiry", steps 13 and 14. -/
theorem test_unlock_to_expiry :
    let s := waiting .locked (request 20 [0, 0])
    let t := after .unlock { s with engine := { s.engine with attempts := 4 } }
    outcome t = 12 ∧ bitAt 2 (answerWord 5 t) = true ∧ t.events.queue.getLast? = some ⟨.access 5, 0, none⟩
      ∧ outcome (after .unlock { t with engine := { t.engine with queue := [request 20 [0x1A2B, 0x3C4D]] } }) = 6 := by
  decide +kernel

theorem test_unlock_with_the_code :
    (after .unlock (waiting .locked (request 20 [0x1A2B, 0x3C4D]))).engine.protection = .unlocked := by decide +kernel

theorem test_lock : (after .lock (waiting .unlocked (request 21 []))).engine.protection = .locked := by decide +kernel

theorem test_freeze :
    (after .freeze (waiting .locked (request 22 []))).engine.protection = .frozen
      ∧ outcome (after .freeze (swapping (waiting .opened (request 22 [])))) = 7 := by
  decide +kernel

theorem test_unknown_request : outcome (after .unknownRequest (waiting .frozen (request 0x17 []))) = 13 := by
  decide +kernel

/-- The table gives no row bits: no word spells a command (log 26). -/
theorem test_no_word_spells_a_command : decodeTableWord 16 5 = none ∧ (site.withFetchWord 16 5).pending = [] := by
  decide +kernel

/-! ### Witnesses: a state and operands that meet the hypotheses of each statement -/

theorem atHead_waiting {p : Protection} {r : Request} {c : RequestCode} (h : RequestCode.ofWord r.code = some c) :
    AtHead (waiting p r) c r [] := ⟨rfl, rfl, rfl, h⟩

theorem atHead_swapping {p : Protection} {r : Request} {c : RequestCode} (h : RequestCode.ofWord r.code = some c) :
    AtHead (swapping (waiting p r)) c r [] := ⟨rfl, rfl, rfl, h⟩

theorem inService_serving (op : Operation) (r : Request) : InService (serving op r) op r [] := ⟨rfl, rfl, rfl⟩

/-- The request to every part. -/
def toAll (r : Request) : Request := { r with address := 63 }

/-- `site` with the states of its sources 0, 1 and 2, and the set of count 100 in which they are present or held. -/
def sourcesAt (x0 x1 x2 : SourceStatus) : State :=
  let v := ((site.intake.sources.set 0 x0).set 1 x1).set 2 x2
  { site with
    intake :=
      { site.intake with
        sources := v, voltage := selectVoltage siteBank v, feederLost := anyFeederLost siteBank v } }

/-- A released set with the three sources present or held. -/
def setOf (p0 p1 p2 : Bool) : ReleasedSet :=
  ⟨100, #v[some ⟨p0, ⟨8000, -4000, -4000⟩⟩, some ⟨p1, ⟨8000, -4000, -4000⟩⟩, some ⟨p2, ⟨100, 0, -100⟩⟩, none, none, none,
    none, none]⟩

/-- `site` with a SYNCED ring of base 100 that holds source 0's arrival at the base, and an arrival of a source waiting. -/
def ringAt (source : Fin 8) (count : Nat) : State :=
  { site with
    ring :=
      { site.ring with
        synced := true
        base := 100
        slots := emptySlots.set 0 (Slot.empty.set 0 (some ⟨⟨1, 2, 3⟩, true⟩))
        waiting := [⟨source, count, ⟨⟨4, 5, 6⟩, true⟩⟩] } }

/-- `ringAt` with the set at the base complete. -/
def ringComplete : State :=
  let s := ringAt 0 101
  let x : Option Sample := some ⟨⟨1, 2, 3⟩, true⟩
  { s with ring := { s.ring with slots := emptySlots.set 0 (((Slot.empty.set 0 x).set 1 x).set 2 x) } }

/-- A state some steps after reset, SYNCED and with a set released. -/
def released : State :=
  let put (s : State) (n : Nat) : State := after (.arrival []) (after (.sampleFrame (sample n).frame) s)
  [100, 101, 102, 103].foldl put site

theorem witness_StepTakesTheFrontCommand : site.pending = [] := rfl

theorem witness_PowerOnLeadsToTheResetState : site.pins.resetN = true := rfl

theorem witness_HardResetChecksTheActiveBank :
    site.phase = .running ∧ (after .hardReset site).phase = .heldHard
      ∧ (after (.resetHoldEnd .resetLineHigh 9) (after .hardReset site)).phase = .testingHard
      ∧ site.bank.digest = site.store.recorded
      ∧ ¬ site.bank.digest = ({ site with store := { site.store with recorded := 1 } } : State).store.recorded
      ∧ AtHead (waiting .opened ⟨5, 7, 4, 1, 10, [1, 2, 3]⟩) .writeTable ⟨5, 7, 4, 1, 10, [1, 2, 3]⟩ []
      ∧ (waiting .opened ⟨5, 7, 4, 1, 10, [1, 2, 3]⟩).store.pendingSwap = none ∧ TableId.ofWord 1 = some .sine
      ∧ AtHead (waiting .locked ⟨5, 7, 4, 1, 10, [1]⟩) .writeTable ⟨5, 7, 4, 1, 10, [1]⟩ []
      ∧ AtHead (swapping (waiting .unlocked ⟨5, 7, 4, 1, 10, [1]⟩)) .writeTable ⟨5, 7, 4, 1, 10, [1]⟩ [] :=
  ⟨rfl, by decide +kernel, by decide +kernel, by decide +kernel, by decide +kernel, atHead_waiting rfl, rfl,
    by decide +kernel, atHead_waiting rfl, atHead_swapping rfl⟩

theorem witness_SoftResetKeepsWhatItNames :
    AtHead (waiting .opened (request 0x11 [])) .resetController (request 0x11 []) []
      ∧ AtHead (waiting .unlocked (toAll (request 0x11 []))) .resetController (toAll (request 0x11 [])) []
      ∧ InService (serving .softReset (request 0x11 [])) .softReset (request 0x11 []) [] :=
  ⟨atHead_waiting rfl, atHead_waiting rfl, inService_serving _ _⟩

theorem witness_HeldPartTakesNothing :
    let held (p : RunPhase) : State := { site with phase := p, pins := { site.pins with resetN := false } }
    (held .heldHard).phase ≠ .running ∧ Instr.echo ≠ .powerOn ∧ Instr.echo ≠ .hardReset
      ∧ (∀ cause straps, Instr.echo ≠ .resetHoldEnd cause straps) ∧ Instr.echo ≠ .selfTest
      ∧ (∀ high, Instr.echo ≠ .cblkEdge high)
      ∧ (held .testingPowerOn).phase = .testingPowerOn ∧ (held .testingPowerOn).pins.resetN = false
      ∧ (held .awaitingLine).phase = .awaitingLine ∧ (held .heldPowerOn).phase = .heldPowerOn := by
  simp

theorem witness_LinkEventsAreRecorded :
    site.phase = .running ∧ site.linkMSynced = true ∧ site.linkC.synced = true ∧ State.reset.linkMSynced = false
      ∧ State.reset.linkC.synced = false ∧ State.reset.phase = .running := ⟨rfl, rfl, rfl, rfl, rfl, rfl⟩

/-- A frame for each condition of R2 and R100, one word off where the condition names a length, and a frame of each
kind that meets none. -/
theorem witness_PortsDiscardFailingFrames :
    site.phase = .running ∧ site.linkMSynced = true ∧ site.linkC.synced = true
      ∧ DiscardedOnLinkM [0x0A01, 13] ∧ DiscardedOnLinkM (sealFrame 0x0A03 [])
      ∧ DiscardedOnLinkM (sealFrame 0x0A01 [0, 0, 0, 0, 0, 0, 0, 0]) ∧ DiscardedOnLinkM (sealFrame 0x0A02 [0, 1, 0])
      ∧ DiscardedOnLinkM (request 4 []).frame ∧ DiscardedOnLinkM (request 4 (List.replicate 33 0)).frame
      ∧ DiscardedOnLinkM (request 1 [0]).frame ∧ DiscardedOnLinkM ((sample 7).frame.dropLast ++ [0])
      ∧ DiscardedOnLinkC [0x0C02, 5] ∧ DiscardedOnLinkC (sealFrame 0x0C01 [0, 0, 0])
      ∧ DiscardedOnLinkC (sealFrame 0x0C02 [0, 0]) ∧ DiscardedOnLinkC [0x0C02, 6, 0, 0, 0, 0]
      ∧ ¬ DiscardedOnLinkM (sample 7).frame
      ∧ ¬ DiscardedOnLinkC (ConverterStatus.frame ⟨5000, true, false, 9⟩) := by
  refine ⟨rfl, rfl, rfl, .inl ?_, .inr (.inl ?_), .inr (.inr (.inl ?_)), .inr (.inr (.inr (.inl ?_))),
    .inr (.inr (.inr (.inr (.inl ⟨?_, ?_, ?_⟩)))), .inr (.inr (.inr (.inr (.inl ⟨?_, ?_, ?_⟩)))),
    .inr (.inr (.inr (.inr (.inr (.inl ⟨.echo, ?_⟩))))), .inr (.inr (.inr (.inr (.inr (.inr ?_))))), .inl ?_,
    .inr (.inl ?_), .inr (.inr (.inl ?_)), .inr (.inr (.inr ?_)), ?_, ?_⟩
  case refine_7 =>
    have h : (request 4 []).frame.length = 7 := by decide +kernel
    have h1 : ((TableId.ofWord (frameWord (request 4 []).frame 4)).map TableId.entryWords).getD 1 = 1 := by decide +kernel
    rw [h, h1]; omega
  case refine_10 =>
    have h : (request 4 (List.replicate 33 0)).frame.length = 40 := by decide +kernel
    have h1 : ((TableId.ofWord (frameWord (request 4 (List.replicate 33 0)).frame 4)).map TableId.entryWords).getD 1 = 1 := by
      decide +kernel
    rw [h, h1]; omega
  case refine_17 =>
    rintro (h | h | h | h | h | ⟨c, h, -⟩ | h)
    · exact absurd h (by decide +kernel)
    · exact absurd h (by decide +kernel)
    · exact absurd h (by decide +kernel)
    · exact absurd h (by decide +kernel)
    · exact absurd h.1 (by decide +kernel)
    · exact absurd h (by decide +kernel)
    · exact absurd h (by decide +kernel)
  case refine_18 =>
    rintro (h | h | h | h) <;> exact absurd h (by decide +kernel)
  all_goals decide +kernel

theorem witness_PortsReadTheFramesSent :
    (SampleFields.mk 0x0400 65535 true true ⟨8388607, -8388608, 0⟩).Sendable
      ∧ (request 4 (List.replicate 32 0)).Sendable ∧ (request 1 []).Sendable ∧ (request 13 [1, 2, 3, 4, 5, 6, 7]).Sendable
      ∧ (ConverterStatus.mk 32767 true true 255).Sendable
      ∧ paramsLength 4 2 128 = true ∧ paramsLength 4 0x00FF 32 = true ∧ paramsLength 0x99 0 5 = true := by
  decide +kernel

theorem witness_NumericConventions : 1 ≤ 1 ∧ roundedShift 1 (-3) = -2 ∧ roundedShift 1 1 = 1 := by decide +kernel

theorem witness_SampleFrameBecomesAnArrival :
    site.phase = .running ∧ site.linkMSynced = true ∧ (sample 3200).Sendable ∧ (sample 3199).Sendable
      ∧ site.bank.param .nominalFrequency = 0 ∧ (site.bank.source 0).enabled = true
      ∧ (site.bank.source 0).ident = (sample 3199).ident
      ∧ ∀ k : Fin 8, (site.bank.source k).enabled = true → (site.bank.source k).ident ≠ 0x0402 := by
  decide +kernel

/-- Each row of R11's table, with RECOVER_SETS 2 and the hold limit 2 at their boundaries. -/
theorem witness_SourceStateTable :
    let s := sourcesAt ⟨.recovering, 1, 1⟩ ⟨.active, 3, 1⟩ ⟨.lost, 0, 2⟩
    let u := sourcesAt ⟨.recovering, 0, 1⟩ ⟨.active, 3, 0⟩ ⟨.recovering, 1, 0⟩
    let has (s : State) (k : Fin 8) (x : SourceState) (run hold : Nat) : Prop := s.intake.sources[k] = ⟨x, run, hold⟩
    has s 0 .recovering 1 1 ∧ has s 1 .active 3 1 ∧ has s 2 .lost 0 2 ∧ has u 0 .recovering 0 1 ∧ has u 1 .active 3 0
      ∧ has u 2 .recovering 1 0 ∧ s.bank.count .recoverSets = 2 ∧ (s.bank.source 0).holdLimit = 2
      ∧ ((setOf true true true).sources[(0 : Fin 8)].any fun x => x.present) = true
      ∧ ((setOf false false false).sources[(2 : Fin 8)].any fun x => x.present) = false := by
  decide +kernel

/-- A MAIN, a STANDBY and no voltage in use, and a feeder's source that enters LOST. -/
theorem witness_IntakeUpdateAtARelease :
    let near : SourceStatus := ⟨.recovering, 1, 0⟩
    ((sourcesAt near near near).intakeRelease (setOf true true true)).intake.sources[(0 : Fin 8)].state = .active
      ∧ ((sourcesAt near near near).intakeRelease (setOf false true true)).intake.sources[(0 : Fin 8)].state ≠ .active
      ∧ ((sourcesAt near near near).intakeRelease (setOf false true true)).intake.sources[(1 : Fin 8)].state = .active
      ∧ ((sourcesAt near near near).intakeRelease (setOf false false true)).intake.sources[(1 : Fin 8)].state ≠ .active
      ∧ (siteBank.source 0).role = .voltageMain ∧ (siteBank.source 1).role = .voltageStandby
      ∧ (siteBank.source 2).role = .feeder ∧ (siteBank.source 2).enabled = true ∧ (siteBank.source 2).feeder = 0
      ∧ ((sourcesAt near near ⟨.active, 3, 1⟩).intakeRelease (setOf true true false)).intake.sources[(2 : Fin 8)].state
          = .lost
      ∧ (sourcesAt near near near).intake.sources[(0 : Fin 8)].state ≠ .active ∧ (siteBank.profile 0).reportArcs = true := by
  decide +kernel

/-- Distances 0, 15, 16, M/2 − 1 and M/2 from a base of 100. -/
theorem witness_ArrivalIsClassified :
    let dist (n : Nat) : Int := ((n : Int) - (ringAt 0 n).ring.base) % (ringAt 0 n).bank.modulus
    (ringAt 0 1700).phase = .running ∧ (ringAt 0 1700).ring.synced = true
      ∧ (ringAt 0 1700).ring.waiting = [⟨0, 1700, ⟨⟨4, 5, 6⟩, true⟩⟩]
      ∧ site.bank.modulus / 2 = 1600 ∧ dist 1700 = 1600 ∧ dist 99 = 3199 ∧ dist 100 = 0 ∧ dist 115 = 15 ∧ dist 116 = 16
      ∧ dist 1699 = 1599 ∧ (((ringAt 0 100).ring.slots[(0 : Fin 16)])[(0 : Fin 8)]).isSome = true
      ∧ ((ringAt 1 100).ring.slots[(0 : Fin 16)])[(1 : Fin 8)] = none
      ∧ ((ringAt 0 115).ring.slots[(15 : Fin 16)])[(0 : Fin 8)] = none
      ∧ ({ ringAt 0 7 with ring := { (ringAt 0 7).ring with synced := false } } : State).ring.synced = false := by
  decide +kernel

theorem witness_ReleaseCheckAndCascade :
    (ringAt 0 101).ring.synced = true ∧ ringComplete.ring.synced = true
      ∧ (∃ k : Fin 8, ((ringComplete.ring.slots[(0 : Fin 16)])[k]).isSome = true)
      ∧ (∀ k : Fin 8, (ringComplete.bank.source k).enabled = true →
          ((ringComplete.ring.slots[(0 : Fin 16)])[k]).isSome = true)
      ∧ (((ringAt 0 101).ring.slots[(0 : Fin 16)])[(1 : Fin 8)]).isSome = false
      ∧ (siteBank.source 1).enabled = true ∧ site.intake.sources[(1 : Fin 8)].state = .recovering
      ∧ siteBank.count .releaseLag ≤ 3 ∧ ¬ siteBank.count .releaseLag ≤ 2
      ∧ site.phase = .running ∧ site.engine.queue = []
      ∧ (waiting .opened (request 13 [0, 1, 0, 2, 0, 3, 0])).commandOf .serve = some .inject
      ∧ (waiting .opened (request 0x99 [])).commandOf .serve = some .unknownRequest
      ∧ site.commandOf .hardReset = some .hardReset := by
  decide +kernel

theorem witness_ReleasedSetIsFormed :
    (siteBank.source 3).enabled = false ∧ (siteBank.source 0).enabled = true
      ∧ ((ringAt 0 101).ring.slots[(0 : Fin 16)])[(0 : Fin 8)] = some ⟨⟨1, 2, 3⟩, true⟩
      ∧ (siteBank.source 1).enabled = true ∧ ((ringAt 0 101).ring.slots[(0 : Fin 16)])[(1 : Fin 8)] = none := by
  decide +kernel

/-- A set on angle, one off angle by a quarter and one without amplitude; the bands and levels between them. -/
theorem witness_TrackerHandlesAReleasedSet :
    let v : Phases := ⟨8000, -4000, -4000⟩
    let on := ((Tracker.afterReset.handle Bank.factory (some v)).1)
    let off := (({ Tracker.afterReset with phase := 16384 }.handle Bank.factory (some v)).1)
    let zero := (({ Tracker.afterReset with sagRun := 3 }.handle Bank.factory (some Phases.zero)).1)
    Bank.factory.param .sagLevel ≤ on.vd ∧ (on.vq.natAbs : Int) ≤ Bank.factory.param .lockBand ∧ on.sag = false
      ∧ Bank.factory.param .lockBand < (off.vq.natAbs : Int) ∧ off.vd < Bank.factory.param .sagLevel
      ∧ zero.vd < Bank.factory.param .sagLevel ∧ zero.sag = true
      ∧ -16384 ≤ Tracker.afterReset.integrator ∧ Tracker.afterReset.integrator ≤ 16384 := by
  decide +kernel

theorem witness_CycleCloses :
    let t := { Tracker.afterReset with lastMean := some 8105, overvoltage := true, cycleVoltage := false }
    Tracker.afterReset.cycleVoltage = true ∧ Tracker.afterReset.lastMean = none ∧ Tracker.afterReset.overvoltage = false
      ∧ t.cycleVoltage = false ∧ t.lastMean = some 8105 ∧ t.overvoltage = true := by
  decide +kernel

theorem witness_FedFeederEntersItsWindow :
    let values : Vector (Option Phases) 6 := #v[some ⟨6000, -1000, -5000⟩, none, none, none, none, none]
    values[(0 : Fin 6)] = some ⟨6000, -1000, -5000⟩ ∧ values[(5 : Fin 6)] = none ∧ site.transform.length = 32
      ∧ (State.reset).transform.length = 64 := by
  decide +kernel

/-- The largest capability and pairs at the ends of iu; both branches of each case of the demand's limits. -/
theorem witness_DemandStaysWithinTheLimit :
    let d := limitDemand Bank.factory false false 8192 0 5462 5462
    let e := limitDemand Bank.factory true true 32767 (-32767) 32767 (-32767)
    (32767 : Nat) ≤ 32767 ∧ InIu 32767 ∧ InIu (-32767) ∧ Bank.factory.param .ovLimit = 1
      ∧ ((magnitude 5462 5462 : Nat) : Int) = d.imax - d.qc.natAbs + 1
      ∧ ((magnitude 5461 5461 : Nat) : Int) ≤ d.imax - d.qc.natAbs ∧ e.imax - e.qc.natAbs < (magnitude 32767 (-32767) : Int)
      ∧ (Bank.factory.setEntry .control 12 [0]).param .ovLimit ≠ 1 := by
  decide +kernel

/-- A part under the three sources' states whose converter is heard and whose tracker is LOCKED. -/
def ready (x0 x1 x2 : SourceStatus) (quiet : Bool) : State :=
  let s := sourcesAt x0 x1 x2
  { s with
    linkC := { s.linkC with status := some ⟨5000, false, false, 0⟩, stale := false, staleRun := 0 }
    tracker := { s.tracker with locked := true }
    supervision := { s.supervision with quiet := quiet } }

/-- Each reference source, MAIN, STANDBY and no voltage, a fed feeder and one that is not, and a set that ends a cycle. -/
theorem witness_ReleasedSetSendsOneReferenceFrame :
    let on : SourceStatus := ⟨.active, 3, 0⟩
    let lost : SourceStatus := ⟨.lost, 0, 2⟩
    let src (s : State) : Option RefSource := (s.handOn {} (setOf true true true)).composer.lastSource
    let held := setOf false true true
    site.composer.injValues.InIu ∧ site.engine.monitor = .strap
      ∧ (after .setMonitor (waiting .opened (request 10 [15]))).engine.monitor = .quantity 15
      ∧ src { ready on on on true with composer := { site.composer with injActive := true } } = some .inject
      ∧ src site = some .blocked ∧ src (ready lost lost on true) = some .hold ∧ src (ready on on on true) = some .quiet
      ∧ src (ready on on on false) = some .computed
      ∧ ((ready on on on true).intakeRelease held).intake.voltage = .main
      ∧ ((ready lost on on true).intakeRelease held).intake.voltage = .standby
      ∧ ((ready lost lost on true).intakeRelease (setOf false false true)).intake.voltage = .none
      ∧ ((ready on on on true).intakeRelease held).intake.sources[(2 : Fin 8)].state = .active
      ∧ (siteBank.source 2).role = .feeder ∧ (siteBank.profile 0).mode = .full
      ∧ (∀ k : Fin 8, (siteBank.source k).enabled = true → (siteBank.source k).role = .feeder →
          (siteBank.source k).feeder ≠ 5)
      ∧ ({ Tracker.afterReset with phase := 65000 }.handle siteBank none).2 = true
      ∧ (Tracker.afterReset.handle siteBank none).2 = false := by
  decide +kernel

theorem witness_InjectionRequestsAndCountdown :
    AtHead (waiting .opened (request 13 [1, 2, 3, 4, 5, 6, 0])) .inject (request 13 [1, 2, 3, 4, 5, 6, 0]) []
      ∧ AtHead (waiting .unlocked (toAll (request 13 [1, 2, 3, 4, 5, 6, 7]))) .inject
          (toAll (request 13 [1, 2, 3, 4, 5, 6, 7])) []
      ∧ AtHead (waiting .frozen (request 14 [])) .injectClear (request 14 []) [] :=
  ⟨atHead_waiting rfl, atHead_waiting rfl, atHead_waiting rfl⟩

theorem witness_LinkCPortRules :
    site.phase = .running ∧ site.linkC.synced = true ∧ site.linkC.derate = false ∧ site.linkC.thermalRun = 0
      ∧ ({ site with phase := .heldHard } : State).phase ≠ .running
      ∧ ({ site with ring := { site.ring with lastReleased := some 3199 } } : State).ring.lastReleased = some 3199 := by
  decide +kernel

theorem witness_WriteTableAnswers :
    AtHead (waiting .opened ⟨5, 7, 4, 4, 8, [0x8000]⟩) .writeTable ⟨5, 7, 4, 4, 8, [0x8000]⟩ []
      ∧ AtHead (swapping (waiting .unlocked ⟨5, 7, 4, 4, 8, [0x8000]⟩)) .writeTable ⟨5, 7, 4, 4, 8, [0x8000]⟩ []
      ∧ (waiting .opened ⟨5, 7, 4, 4, 8, [0x8000]⟩).store.pendingSwap = none ∧ TableId.ofWord 4 = some .control
      ∧ TableId.ofWord 6 = some .report ∧ TableId.ofWord 7 = none ∧ TableId.ofWord 0 = none :=
  ⟨atHead_waiting rfl, atHead_swapping rfl, rfl, by decide +kernel⟩

theorem witness_ListIsWrittenInOrder :
    (List.replicate 256 [(0x0123 : Word)]).length ≤ 256
      ∧ (∀ e ∈ List.replicate 256 [(0x0123 : Word)], e.length = TableId.entryWords .sine)
      ∧ (∀ e ∈ [[(1 : Word), 256, 819, 410], [4, 256, 819, 410]], e.length = TableId.entryWords .profile) := by
  decide +kernel

theorem witness_StoredFormClampsInPlace :
    storeEntry .control 3 [300] = some [255] ∧ bitField 12 2 0x3000 = 3 ∧ bitField 12 2 0x2000 ≠ 3
      ∧ 3 < bitField 0 3 4 ∧ bitField 0 3 3 ≤ 3 ∧ 15 < bitField 0 5 0x0010 ∧ 15 < bitField 5 5 0x0200
      ∧ 15 < bitField 10 5 0x4000 ∧ bitField 0 5 0x3DEF ≤ 15 ∧ bitField 5 5 0x3DEF ≤ 15 ∧ bitField 10 5 0x3DEF ≤ 15
      ∧ Param.all[0]? = some .nominalFrequency ∧ Param.enumerated .nominalFrequency = true
      ∧ Param.all[20]? = some .auditCycles ∧ Param.enumerated .auditCycles = false ∧ Param.all[8]? = some .bias := by
  decide +kernel

theorem witness_ReadTableAnswers :
    AtHead (waiting .frozen ⟨5, 7, 3, 1, 255, [1, 32]⟩) .readTable ⟨5, 7, 3, 1, 255, [1, 32]⟩ []
      ∧ AtHead (waiting .locked (toAll (request 3 [2, 0]))) .readTable (toAll (request 3 [2, 0])) []
      ∧ Request.param ⟨5, 7, 3, 1, 255, [1, 32]⟩ 0 = 1 ∧ Request.param ⟨5, 7, 3, 1, 255, [1, 32]⟩ 1 = 32
      ∧ Request.param (request 3 [0, 33]) 1 = 33 ∧ TableId.ofWord 1 = some .sine :=
  ⟨atHead_waiting rfl, atHead_waiting rfl, by decide +kernel⟩

theorem witness_CloneCopiesTheActiveBank :
    AtHead (waiting .opened (request 5 [])) .clone (request 5 []) []
      ∧ AtHead (swapping (waiting .unlocked (request 5 []))) .clone (request 5 []) []
      ∧ InService (serving .clone (request 5 [])) .clone (request 5 []) [] :=
  ⟨atHead_waiting rfl, atHead_swapping rfl, inService_serving _ _⟩

/-- The factory bank's digest, another one, and a bank with two records of one identifier. -/
theorem witness_CommitMakesASwapPending :
    AtHead (waiting .opened (request 6 [0x0A28])) .commitSwap (request 6 [0x0A28]) []
      ∧ AtHead (swapping (waiting .unlocked (request 6 [0]))) .commitSwap (request 6 [0]) []
      ∧ InService (serving .commit (request 6 [0x0A28])) .commit (request 6 [0x0A28]) []
      ∧ (serving .commit (request 6 [0x0A28])).store.pendingSwap = none
      ∧ Bank.factory.digest.toNat = Request.param (request 6 [0x0A28]) 0 ∧ Bank.factory.conflict = none
      ∧ (siteBank.setEntry .source 3 [0x0400, 0xA003, 1, 1]).conflict = some (.source, 3) :=
  ⟨atHead_waiting rfl, atHead_swapping rfl, inService_serving _ _, rfl, by decide +kernel⟩

theorem witness_ConflictsOfABank :
    (siteBank.source 0).enabled = true ∧ (siteBank.source 2).enabled = true ∧ (0 : Fin 8) ≠ 2
      ∧ (Bank.factory.setEntry .profile 5 [0, 0, 5, 5]).conflict = some (.profile, 5)
      ∧ Bank.factory.controlWords[8]? = some 0 ∧ Bank.factory.sineWords[192]? = some 0xE000
      ∧ (∀ j : Fin 4, Bank.factory.sourceWords[4 * 7 + j.val]? = some (![0x0000, 0x2000, 0x0001, 0x0004] j))
      ∧ (∀ j : Fin 4, Bank.factory.profileWords[4 * 5 + j.val]? = some (![0x0000, 0x0100, 0x0333, 0x019A] j))
      ∧ Bank.factory.termWords[2 * 3]? = some 1 ∧ Bank.factory.termWords[2 * 3 + 1]? = some 0
      ∧ Bank.factory.reportWords[Condition.healthLow.code - 1]? = some 1 := by
  decide +kernel

theorem witness_CancelSwapRemovesThePendingSwap :
    AtHead (swapping (waiting .opened (request 7 []))) .cancelSwap (request 7 []) []
      ∧ AtHead (waiting .unlocked (toAll (request 7 []))) .cancelSwap (toAll (request 7 [])) [] :=
  ⟨atHead_swapping rfl, atHead_waiting rfl⟩

theorem witness_AuditsCountAndCompare :
    let s : State := { site with store := { site.store with auditInFlight := true, auditCounter := 255 } }
    siteBank.count .auditCycles = 256 ∧ site.store.auditCounter + 1 < 256 ∧ 256 ≤ s.store.auditCounter + 1
      ∧ site.store.auditInFlight = false ∧ s.store.auditInFlight = true ∧ s.phase = .running
      ∧ s.bank.digest = s.store.recorded ∧ s.bank.digest ≠ 1 ∧ s.store.pendingSwap = none
      ∧ (swapping s).store.pendingSwap = some 1 ∧ changed .qClamped false false 1 none = []
      ∧ changed .qClamped false true 1 none ≠ [] :=
  ⟨by decide +kernel, by decide +kernel, by decide +kernel, rfl, rfl, rfl, by decide +kernel, by decide +kernel, rfl, rfl,
    by decide +kernel, by decide +kernel⟩

/-- R87, R124: at a boundary a pending swap completes before the audit count, and the seen flags become the cycle's. -/
theorem test_boundary_swaps_and_rolls :
    let t := (swapping site).endCycle []
    let u := State.endCycle { site with composer := { site.composer with qSeen := true } } []
    t.store.active = 1 ∧ t.store.recorded = 1 ∧ t.store.auditCounter = 1 ∧ t.tracker.cycle = 1
      ∧ u.composer.qClamped = true ∧ u.composer.qSeen = false ∧ u.health.raw[(2 : Fin 5)] = 1 := by
  decide +kernel

/-- A swap that changes the frequency and one that changes nothing; a lost voltage, a kept and a changed assignment, a
profile made OFF, and waking enabled with QUIET_CYCLES 0 and 3. -/
theorem witness_SwapCompletionReachesEveryBlock :
    let other := Bank.factory.setEntry .control 0 [1]
    siteBank.param .nominalFrequency ≠ other.param .nominalFrequency
      ∧ siteBank.param .nominalFrequency = Bank.factory.param .nominalFrequency
      ∧ (siteBank.source 0).enabled = true ∧ (Bank.factory.source 0).enabled = false
      ∧ (siteBank.source 2).role = .feeder ∧ (siteBank.profile 0).mode ≠ .off ∧ (Bank.factory.profile 0).mode = .off
      ∧ siteBank.count .quietCycles = 3 ∧ Bank.factory.count .quietCycles = 0 ∧ (siteBank.profile 0).wakeEnable = true := by
  decide +kernel

theorem witness_ShadowDoesNotReachProcessing :
    processing (.syncRegained .m) = true ∧ site.store.pendingSwap = none
      ∧ exec (.syncRegained .m) site = .next (after (.syncRegained .m) site)
      ∧ processing (.arrival [{ fed := [.cblkEdge false], sent := [.auditCompletion] }]) = true :=
  ⟨rfl, rfl, rfl, rfl⟩

/-- A feeder that is evaluated, from each arc state, at and below each level (on 819, off 410), and one that is not. -/
theorem witness_ArcStatesAtABoundary :
    let s := sourcesAt ⟨.active, 3, 0⟩ ⟨.active, 3, 0⟩ ⟨.active, 3, 0⟩
    let fig (m : Nat) : ArcFigures := ⟨Vector.replicate 6 m, Vector.replicate 6 true⟩
    let arc (x : ArcState) : State := { s with supervision := { s.supervision with arcs := Vector.replicate 6 x } }
    s.intake.sources[(2 : Fin 8)].state = .active ∧ (siteBank.source 2).feeder = 0 ∧ (siteBank.profile 0).mode ≠ .off
      ∧ (fig 819).full[(0 : Fin 6)] = true ∧ (siteBank.profile 0).arcOn = 819 ∧ (siteBank.profile 0).arcOff = 410
      ∧ (fig 819).magnitude[(0 : Fin 6)] = 819 ∧ (fig 409).magnitude[(0 : Fin 6)] = 409
      ∧ (arc .dark).supervision.arcs[(0 : Fin 6)] = .dark ∧ (arc .pendingOn).supervision.arcs[(0 : Fin 6)] = .pendingOn
      ∧ (arc .burning).supervision.arcs[(0 : Fin 6)] = .burning
      ∧ (arc .pendingOff).supervision.arcs[(0 : Fin 6)] = .pendingOff ∧ (siteBank.profile 1).mode = .off
      ∧ ((arc .pendingOn).arcsAndQuiet (fig 819)).2 = [.record ⟨.arc 0 .burning, 0, none⟩] := by
  decide +kernel

theorem witness_QuietAtABoundary :
    let s : State := { site with supervision := { site.supervision with quiet := true, quietTimer := 3 } }
    let lit : State :=
      { s with supervision := { s.supervision with arcs := Vector.replicate 6 .burning } }
    let fig : ArcFigures := ⟨Vector.replicate 6 0, Vector.replicate 6 false⟩
    s.supervision.quiet = true ∧ (s.arcsAndQuiet fig).1.arcs[(0 : Fin 6)] = .dark
      ∧ (lit.arcsAndQuiet fig).1.arcs[(0 : Fin 6)] = .burning ∧ site.supervision.quiet = false
      ∧ siteBank.count .quietCycles ≠ 0 ∧ (siteBank.profile 0).wakeEnable = true
      ∧ (siteBank.profile 1).wakeEnable = false := by
  decide +kernel

theorem witness_TripLineLatches :
    let s : State := { site with supervision := { site.supervision with trip := true } }
    Instr.syncRegained .m ≠ .clearTrip ∧ Instr.syncRegained .m ≠ .powerOn
      ∧ Instr.syncRegained .m ≠ .hardReset
      ∧ (∀ x ∈ (Instr.arrival [{ fed := [.serve] }]).asides, x ≠ .powerOn ∧ x ≠ .hardReset)
      ∧ (∀ r ∈ (waiting .opened (request 1 [])).engine.queue, RequestCode.ofWord r.code ≠ some .clearTrip)
      ∧ (∀ ws, Aside.linkMFrame ws ∉ (Instr.arrival [{ fed := [.serve] }]).asides)
      ∧ s.supervision.trip = true ∧ exec (.syncRegained .m) s = .next (after (.syncRegained .m) s) :=
  ⟨by simp, by simp, by simp, by decide, by decide +kernel, fun _ => by simp [Instr.asides, SetAsides.all], rfl, rfl⟩

theorem witness_WakeAndClearTrip :
    AtHead (waiting .frozen (request 11 [])) .wake (request 11 []) []
      ∧ AtHead (waiting .locked (toAll (request 12 []))) .clearTrip (toAll (request 12 [])) [] :=
  ⟨atHead_waiting rfl, atHead_waiting rfl⟩

theorem witness_HealthAtABoundary :
    let s : State := { site with health := { site.health with raw := Vector.replicate 5 65535, interval := 499 } }
    (∀ a : Fin 5, s.health.raw[a] ≤ 65535) ∧ s.bank.count .healthInterval ≤ s.health.interval + 1
      ∧ site.health.interval + 1 < site.bank.count .healthInterval := by
  decide +kernel

/-- A queue with room and a full one; a request to this part, to all parts and to another part. -/
theorem witness_RequestFrameJoinsTheQueue :
    let s : State := { site with engine := { site.engine with queue := List.replicate 4 (request 1 []) } }
    site.phase = .running ∧ site.linkMSynced = true ∧ (request 4 [0]).Sendable ∧ (toAll (request 1 [])).Sendable
      ∧ site.engine.queue.length < 4 ∧ ¬ s.engine.queue.length < 4 ∧ (request 1 []).address = s.engine.address := by
  decide +kernel

theorem witness_GateRefusesByProtectionState :
    AtHead (waiting .locked (request 4 [0])) .writeTable (request 4 [0]) []
      ∧ AtHead (waiting .frozen (toAll (request 5 []))) .clone (toAll (request 5 [])) []
      ∧ AtHead (waiting .opened (request 20 [1, 2])) .unlock (request 20 [1, 2]) []
      ∧ AtHead (waiting .opened (toAll (request 1 []))) .echo (toAll (request 1 [])) []
      ∧ RequestCode.ofWord (request 0x17 []).code = none ∧ RequestCode.ofWord (request 0 []).code = none
      ∧ (waiting .frozen (request 0x17 [])).engine.queue = [request 0x17 []] :=
  ⟨atHead_waiting rfl, atHead_waiting rfl, atHead_waiting rfl, atHead_waiting rfl, rfl, rfl, rfl⟩

theorem witness_CodeLockAndFreeze :
    AtHead (waiting .opened (request 18 [1, 2])) .setCode (request 18 [1, 2]) []
      ∧ AtHead (waiting .unlocked (toAll (request 18 [1, 2]))) .setCode (toAll (request 18 [1, 2])) []
      ∧ AtHead (waiting .unlocked (request 19 [])) .clearCode (request 19 []) []
      ∧ AtHead (waiting .locked (request 21 [])) .lock (request 21 []) []
      ∧ AtHead (waiting .frozen (request 22 [])) .freeze (request 22 []) []
      ∧ AtHead (waiting .locked (request 22 [])) .freeze (request 22 []) []
      ∧ AtHead (swapping (waiting .opened (request 22 []))) .freeze (request 22 []) [] :=
  ⟨atHead_waiting rfl, atHead_waiting rfl, atHead_waiting rfl, atHead_waiting rfl, atHead_waiting rfl, atHead_waiting rfl,
    atHead_swapping rfl⟩

/-- Each protection state that serves UNLOCK, the right and a wrong code, the fifth attempt and expiry. -/
theorem witness_UnlockChecksTheCode :
    let r := request 20 [0x1A2B, 0x3C4D]
    let tried (n : Nat) : State :=
      { waiting .locked r with engine := { (waiting .locked r).engine with attempts := n } }
    AtHead (waiting .opened r) .unlock r [] ∧ AtHead (waiting .unlocked r) .unlock r [] ∧ AtHead (tried 5) .unlock r []
      ∧ AtHead (tried 4) .unlock r [] ∧ r.address ≠ 63 ∧ r.params = [0x1A2B, 0x3C4D]
      ∧ (tried 4).engine.code = some (BitVec.append (0x1A2B : Word) (0x3C4D : Word))
      ∧ (tried 4).engine.code ≠ some (BitVec.append (0x1A2B : Word) (0x3C4E : Word)) := by
  refine ⟨atHead_waiting rfl, atHead_waiting rfl, ⟨rfl, rfl, rfl, rfl⟩, ⟨rfl, rfl, rfl, rfl⟩, ?_, rfl, ?_, ?_⟩ <;>
    decide +kernel

theorem witness_ReadsChangeNothing :
    AtHead (waiting .locked (request 1 [])) .echo (request 1 []) []
      ∧ AtHead (waiting .frozen (toAll (request 2 []))) .readStatus (toAll (request 2 [])) []
      ∧ AtHead (waiting .opened (request 9 [])) .readHealth (request 9 []) [] :=
  ⟨atHead_waiting rfl, atHead_waiting rfl, atHead_waiting rfl⟩

theorem witness_SetMonitorSelects :
    AtHead (waiting .frozen (request 10 [15])) .setMonitor (request 10 [15]) []
      ∧ AtHead (waiting .locked (toAll (request 10 [0x0100]))) .setMonitor (toAll (request 10 [0x0100])) []
      ∧ Request.param (request 10 [15]) 0 = (15 : Fin 16).val ∧ Request.param (request 10 [0x0100]) 0 = 0x0100
      ∧ 16 ≤ Request.param (request 10 [16]) 0 ∧ Request.param (request 10 [16]) 0 ≠ 0x0100 ∧ (request 10 [16]).address ≠ 63 :=
  ⟨atHead_waiting rfl, atHead_waiting rfl, by decide +kernel⟩

theorem witness_SetThresholdEvaluatesHealthLow :
    AtHead (waiting .opened (request 15 [5, 253])) .setThreshold (request 15 [5, 253]) []
      ∧ AtHead (waiting .unlocked (request 15 [6, 253])) .setThreshold (request 15 [6, 253]) []
      ∧ Request.param (request 15 [5, 253]) 0 = 5 ∧ Request.param (request 15 [5, 253]) 1 = 253
      ∧ Request.param (request 15 [1, 254]) 1 = 254 ∧ (request 15 [5, 253]).address ≠ 63 :=
  ⟨atHead_waiting rfl, atHead_waiting rfl, by decide +kernel⟩

/-- An empty queue and a full one. -/
theorem witness_OfferedRecordsEnterOrOverflow :
    (EventUnit.emptied).queue.length ≤ 16 ∧ (List.replicate 16 (⟨.swap 1, 0, none⟩ : EventRecord)).length ≤ 16
      ∧ site.events.queue.length ≤ 16 := by
  decide +kernel

theorem witness_ReadEventsRemovesTheOldest :
    AtHead (waiting .frozen (request 8 [8])) .readEvents (request 8 [8]) []
      ∧ AtHead (waiting .locked (toAll (request 8 [1]))) .readEvents (toAll (request 8 [1])) []
      ∧ Request.param (request 8 [8]) 0 = 8 ∧ Request.param (request 8 [1]) 0 = 1 ∧ Request.param (request 8 [0]) 0 = 0
      ∧ 8 < Request.param (request 8 [9]) 0 :=
  ⟨atHead_waiting rfl, atHead_waiting rfl, by decide +kernel⟩

theorem witness_AttentionModeAndPulse :
    let pulsed (s : State) : State :=
      { s with engine := { s.engine with attention := .pulsed }, events := ⟨s.events.queue, false, true, some 100⟩ }
    AtHead (waiting .opened (request 16 [1])) .setAttentionMode (request 16 [1]) []
      ∧ AtHead (pulsed (waiting .unlocked (request 16 [0]))) .setAttentionMode (request 16 [0]) []
      ∧ (waiting .opened (request 16 [1])).engine.attention = .latched
      ∧ (pulsed (waiting .unlocked (request 16 [0]))).engine.attention = .pulsed
      ∧ Request.param (request 16 [0]) 0 = 0 ∧ Request.param (request 16 [1]) 0 = 1 ∧ 1 < Request.param (request 16 [2]) 0
      ∧ (request 16 [2]).address ≠ 63 ∧ (pulsed site).phase = .running ∧ (pulsed site).events.pulse.isSome = true :=
  ⟨atHead_waiting rfl, ⟨rfl, rfl, rfl, rfl⟩, rfl, rfl, by decide +kernel⟩

theorem witness_FrozenPartIsolatesBanksAndCode :
    let s := waiting .frozen (request 1 [])
    s.EngineInv ∧ s.engine.protection = .frozen ∧ Instr.echo ≠ .powerOn ∧ Instr.echo ≠ .hardReset
      ∧ (∀ x ∈ (Instr.arrival [{ fed := [.serve] }]).asides, x ≠ .powerOn ∧ x ≠ .hardReset)
      ∧ exec .echo s = .next (after .echo s) :=
  ⟨by decide +kernel, rfl, by simp, by simp, by decide, rfl⟩

/-- A SYNCED part with a released set. -/
theorem witness_IntakeAgreesWithTheBank : released.IntakeInv := by decide +kernel

theorem witness_RingKeepsItsForm : released.RingInv ∧ released.RingAtRest := ⟨by decide +kernel, by decide +kernel⟩

/-- A part that runs, and one held in reset. -/
theorem witness_TrackerAndCountsKeepTheirRanges :
    released.TrackerInv ∧ released.OutputInv ∧ released.CycleCountsInv ∧ (after .hardReset released).TrackerInv :=
  ⟨by decide +kernel, by decide +kernel, by decide +kernel, by decide +kernel⟩

theorem witness_WindowSumsAreTheirEntries : released.WindowInv := by decide +kernel

theorem witness_EngineKeepsItsForm : released.EngineInv ∧ (serving .commit (request 6 [0])).EngineInv :=
  ⟨by decide +kernel, by decide +kernel⟩

theorem witness_EventUnitKeepsItsForm : released.EventInv := by decide +kernel

/-- That part takes a command. -/
theorem witness_a_step_of_the_running_part : ∃ t, step { released with pending := [.echo] } = .next t := ⟨_, rfl⟩

/-- The invariants of StatusRecordHoldsEachItem, at the part the request tests use. -/
theorem witness_StatusRecordHoldsEachItem :
    site.EngineInv ∧ site.IntakeInv ∧ site.OutputInv ∧ site.EventInv ∧ site.TrackerInv :=
  ⟨by decide +kernel, by decide +kernel, by decide +kernel, by decide +kernel, by decide +kernel⟩

end Sys2Proof.Tests
end

/-! R1's numeric conventions as equations, and the statement that collects them. -/

namespace Sys2Proof.Machine

theorem clampInt_eq_max_min {lo hi : Int} (h : lo ≤ hi) (x : Int) : clampInt lo hi x = max lo (min hi x) := by
  rcases lt_or_ge x lo with below | notBelow
  · rw [clampInt, if_pos below]; omega
  · rcases le_or_gt x hi with within | above
    · rw [clampInt_of_mem notBelow within]; omega
    · rw [clampInt, if_neg (by omega), if_pos above]; omega

theorem saturate_eq_max_min (x : Int) : saturate x = max (-32767) (min 32767 x) :=
  clampInt_eq_max_min (by decide) x

@[simp] theorem roundedShift_zero (x : Int) : roundedShift 0 x = x := if_pos rfl

/-- R1: the magnitude is rounded, and the sign restored. -/
theorem roundedShift_eq_sign_mul {k : Nat} (hk : 1 ≤ k) (x : Int) :
    roundedShift k x = x.sign * (((x.natAbs + 2 ^ (k - 1)) / 2 ^ k : Nat) : Int) := by
  rw [roundedShift, if_neg (by omega)]
  rcases lt_trichotomy x 0 with neg | rfl | pos
  · rw [if_pos neg, Int.sign_eq_neg_one_of_neg neg, neg_one_mul]
  · have half_lt : 2 ^ (k - 1) < 2 ^ k := Nat.pow_lt_pow_right (by decide) (by omega)
    simp [Nat.div_eq_of_lt half_lt]
  · rw [if_neg (by omega), Int.sign_eq_one_of_pos pos, one_mul]

/-- Adding half the divisor before a division with the fraction discarded gives a nearest multiple. -/
theorem mul_div_add_half_near (n h : Nat) (hh : 0 < h) :
    (((2 * h * ((n + h) / (2 * h)) : Nat) : Int) - n).natAbs ≤ h := by
  have divMod : 2 * h * ((n + h) / (2 * h)) + (n + h) % (2 * h) = n + h := Nat.div_add_mod _ _
  have rest : (n + h) % (2 * h) < 2 * h := Nat.mod_lt _ (by omega)
  omega

/-- R1: a rounded shift is within half a unit of the exact quotient. The error is the operand's sign times the
error of rounding its magnitude. -/
theorem roundedShift_error_le {k : Nat} (hk : 1 ≤ k) (x : Int) :
    2 * (2 ^ k * roundedShift k x - x).natAbs ≤ 2 ^ k := by
  obtain ⟨j, rfl⟩ := Nat.exists_eq_add_of_le' hk
  have double : 2 ^ (j + 1) = 2 * 2 ^ j := Nat.pow_succ'
  have near := mul_div_add_half_near x.natAbs (2 ^ j) (Nat.two_pow_pos j)
  rw [← double] at near
  have error : 2 ^ (j + 1) * roundedShift (j + 1) x - x
      = x.sign * (((2 ^ (j + 1) * ((x.natAbs + 2 ^ j) / 2 ^ (j + 1)) : Nat) : Int) - x.natAbs) := by
    rw [roundedShift_eq_sign_mul hk, mul_sub, Int.sign_mul_natAbs, Nat.add_sub_cancel]
    push_cast
    ring
  have sign_le : x.sign.natAbs ≤ 1 := by rw [Int.natAbs_sign]; split <;> decide
  calc 2 * (2 ^ (j + 1) * roundedShift (j + 1) x - x).natAbs
      ≤ 2 * (1 * 2 ^ j) := by rw [error, Int.natAbs_mul]; gcongr
    _ = 2 ^ (j + 1) := by rw [one_mul, double]

/-- R1: the quotient of the magnitudes with the fraction discarded, under the product of the signs. -/
theorem truncDiv_eq_sign_mul (x y : Int) :
    truncDiv x y = x.sign * y.sign * ((x.natAbs / y.natAbs : Nat) : Int) := by
  have natAbs_quotient : (x.tdiv y).natAbs = x.natAbs / y.natAbs := Int.natAbs_tdiv x y
  rw [truncDiv, ← Int.sign_mul_natAbs (x.tdiv y), natAbs_quotient, Int.sign_tdiv]
  split
  · next small => rw [Nat.div_eq_of_lt small, Nat.cast_zero, mul_zero, mul_zero]
  · rfl

/-- Settles O10: one equation per convention, and the half-unit bound of the rounded shift. -/
theorem numericConventions : Obligations.NumericConventions :=
  ⟨saturate_eq_max_min, roundedShift_zero,
    fun _ x hk => ⟨roundedShift_eq_sign_mul hk x, roundedShift_error_le hk x⟩,
    truncDiv_eq_sign_mul, fun _ _ => rfl⟩

end Sys2Proof.Machine

/-! Sample intake: a sample frame reads back as the fields sent and becomes one arrival of the source it names (R5 to
R7), and what a released set does to a source's state (R11). -/

namespace Sys2Proof.Machine

/-! ### Frames read back (R190 to R194) -/

theorem wordOf_toNat {n : Nat} (h : n < 65536) : (wordOf n).toNat = n :=
  (BitVec.toNat_ofNat n 16).trans (Nat.mod_eq_of_lt h)

@[simp] theorem sealFrame_length (kind : Word) (fields : List Word) :
    (sealFrame kind fields).length = fields.length + 3 := by
  simp [sealFrame]

/-- R190: the length word of a sealed frame is the number of its words. -/
theorem lengthAgrees_sealFrame {kind : Word} {fields : List Word} (short : fields.length + 3 < 65536) :
    lengthAgrees (sealFrame kind fields) = true := by
  have lengthWord : frameWord (sealFrame kind fields) 1 = wordOf (fields.length + 3) := rfl
  simp [lengthAgrees, lengthWord, wordOf_toNat short]

/-- R192: the last word of a sealed frame is the check word of those before it. -/
theorem checkAgrees_sealFrame (kind : Word) (fields : List Word) : checkAgrees (sealFrame kind fields) = true := by
  have sealed (body : List Word) : checkAgrees (body ++ [checkWord body]) = true := by simp [checkAgrees, frameWord]
  exact sealed _

/-- R194: the two words of a signed 24-bit value read back as the value. -/
theorem value24_words {x : Int} (h : Within24 x) : value24 (wordOf (x / 65536 % 256).toNat) (signedWord x) = x := by
  obtain ⟨low, high⟩ := h
  simp only [value24, bitField, wordOf, signedWord, BitVec.toNat_ofNat, BitVec.toNat_ofInt]
  split <;> omega

/-- R193: bit 0 of a quality word is set where the frame is not valid. -/
theorem bitAt_zero_quality (a b : Bool) : bitAt 0 (bitWord 0 a + bitWord 1 b) = a := by
  cases a <;> cases b <;> decide

/-- R193: bit 1 of a quality word is set where the frame is not normal. -/
theorem bitAt_one_quality (a b : Bool) : bitAt 1 (bitWord 0 a + bitWord 1 b) = b := by
  cases a <;> cases b <;> decide

/-- R190, R193, R194: the fields of a sample frame, read from the words a merging unit sends. -/
theorem readSampleFields_frame {f : SampleFields} (h : f.Sendable) : readSampleFields f.frame = f := by
  obtain ⟨count, a, b, c⟩ := h
  calc readSampleFields f.frame
      = { ident := f.ident
          count := (wordOf f.count).toNat
          valid := !bitAt 0 (bitWord 0 (!f.valid) + bitWord 1 (!f.normal))
          normal := !bitAt 1 (bitWord 0 (!f.valid) + bitWord 1 (!f.normal))
          raw :=
            { a := value24 (wordOf (f.raw.a / 65536 % 256).toNat) (signedWord f.raw.a)
              b := value24 (wordOf (f.raw.b / 65536 % 256).toNat) (signedWord f.raw.b)
              c := value24 (wordOf (f.raw.c / 65536 % 256).toNat) (signedWord f.raw.c) } } := rfl
    _ = f := by
      simp only [value24_words a, value24_words b, value24_words c, bitAt_zero_quality, bitAt_one_quality, Bool.not_not,
        wordOf_toNat count]

/-- R2, R3: what a merging unit sends passes the port's tests and is read as the fields sent. -/
theorem judgeLinkM_sampleFrame {f : SampleFields} (h : f.Sendable) : judgeLinkM f.frame = .sample f := by
  have passes : lengthAgrees f.frame && checkAgrees f.frame := by
    rw [Bool.and_eq_true]
    exact ⟨lengthAgrees_sealFrame (by simp [words24]), checkAgrees_sealFrame _ _⟩
  have kind : frameWord f.frame 0 = 0x0A01 := rfl
  have length : f.frame.length = 12 := rfl
  rw [judgeLinkM, if_pos passes, if_pos kind, if_pos length, readSampleFields_frame h]

/-- R5: a running part with a synchronised receiver hands the fields of a sample frame to sample intake. -/
theorem exec_sampleFrame {s : State} {f : SampleFields} (running : s.phase = .running) (synced : s.linkMSynced = true)
    (h : f.Sendable) : exec (.sampleFrame f.frame) s = .next (s.intakeSample f) := by
  have received : s.receiveM f.frame = s.intakeSample f := by
    rw [State.receiveM, if_pos synced, judgeLinkM_sampleFrame h]
  calc exec (.sampleFrame f.frame) s
      = .next (s.whenRunning fun s => s.receiveM f.frame) := rfl
    _ = .next (s.intakeSample f) := by rw [State.whenRunning, if_pos running, received]

/-! ### The record that holds an identifier (R5, R130) -/

theorem mem_sourceIndices (k : Fin 8) : k ∈ sourceIndices := by
  revert k; decide

/-- Two enabled records that R123 lets not stand together. -/
def SourceRecord.Clash (q r : SourceRecord) : Prop :=
  q.enabled = true ∧ r.enabled = true ∧ r.conflictsWith q = true

/-- Enabled records of one identifier conflict. -/
theorem SourceRecord.clash_of_ident {q r : SourceRecord} (hq : q.enabled = true) (hr : r.enabled = true)
    (same : r.ident = q.ident) : q.Clash r :=
  ⟨hq, hr, by simp [SourceRecord.conflictsWith, same]⟩

/-- R130: as it is read, a record is in conflict with no record of lower index. -/
theorem SourceRecord.not_clash_of_read {r q : SourceRecord} {lower : List SourceRecord} (mem : q ∈ lower) :
    ¬ q.Clash (if r.conflictsBelow lower then { r with enabled := false } else r) := by
  rintro ⟨enabled, readEnabled, conflict⟩
  split at readEnabled
  · cases readEnabled
  · next free =>
    rw [if_neg free] at conflict
    exact free (by simpa [SourceRecord.conflictsBelow, readEnabled] using ⟨q, mem, enabled, conflict⟩)

@[simp] theorem readInOrder_length (lower rs : List SourceRecord) : (readInOrder lower rs).length = rs.length := by
  induction rs generalizing lower with
  | nil => rfl
  | cons r rest ih => rw [readInOrder, List.length_cons, List.length_cons, ih]

/-- R130: records read in order, behind records of which no two conflict, leave no two in conflict. -/
theorem readInOrder_pairwise {lower : List SourceRecord} (rs : List SourceRecord)
    (h : lower.Pairwise fun q r => ¬ q.Clash r) :
    (lower ++ readInOrder lower rs).Pairwise fun q r => ¬ q.Clash r := by
  induction rs generalizing lower with
  | nil => simpa [readInOrder] using h
  | cons r rest ih =>
    rw [readInOrder, List.append_cons]
    refine ih (List.pairwise_append.2 ⟨h, List.pairwise_singleton _ _, fun q mem r' only => ?_⟩)
    rw [List.mem_singleton.1 only]
    exact SourceRecord.not_clash_of_read mem

theorem Bank.sources_length (b : Bank) : b.sources.length = 8 := by
  simp [Bank.sources, Bank.storedSources, sourceIndices]

theorem Bank.source_eq_getElem (b : Bank) (k : Fin 8) :
    b.source k = b.sources[k.val]'(by rw [b.sources_length]; exact k.isLt) := by
  simp [Bank.source, b.sources_length]

/-- R130: no two records of a bank as read conflict. -/
theorem Bank.source_not_clash (b : Bank) {i j : Fin 8} (lt : i < j) : ¬ (b.source i).Clash (b.source j) := by
  have pairwise : b.sources.Pairwise fun q r => ¬ q.Clash r := readInOrder_pairwise b.storedSources .nil
  rw [b.source_eq_getElem, b.source_eq_getElem]
  exact List.pairwise_iff_getElem.1 pairwise _ _ _ _ lt

/-- R5, R130: at most one enabled record holds an identifier. -/
theorem Bank.source_ident_injective (b : Bank) {i j : Fin 8} (hi : (b.source i).enabled = true)
    (hj : (b.source j).enabled = true) (same : (b.source i).ident = (b.source j).ident) : i = j := by
  rcases lt_trichotomy i j with lt | eq | gt
  · exact absurd (SourceRecord.clash_of_ident hi hj same.symm) (b.source_not_clash lt)
  · exact eq
  · exact absurd (SourceRecord.clash_of_ident hj hi same) (b.source_not_clash gt)

theorem Bank.matchIdent_eq_none_iff (b : Bank) (ident : Word) :
    b.matchIdent ident = none ↔ ∀ k : Fin 8, (b.source k).enabled = true → (b.source k).ident ≠ ident := by
  simp [Bank.matchIdent, List.find?_eq_none, mem_sourceIndices]

theorem Bank.matchIdent_eq_some_iff (b : Bank) (ident : Word) (k : Fin 8) :
    b.matchIdent ident = some k ↔ (b.source k).enabled = true ∧ (b.source k).ident = ident := by
  have holds {j : Fin 8} (found : b.matchIdent ident = some j) :
      (b.source j).enabled = true ∧ (b.source j).ident = ident := by
    simpa using List.find?_some found
  refine ⟨holds, fun ⟨enabled, same⟩ => ?_⟩
  cases found : b.matchIdent ident with
  | none => exact absurd same ((b.matchIdent_eq_none_iff ident).1 found k enabled)
  | some j =>
    obtain ⟨enabled', same'⟩ := holds found
    rw [b.source_ident_injective enabled' enabled (same'.trans same.symm)]

/-! ### From frame to arrival (R5 to R7) -/

section
variable {s : State} {f : SampleFields}

/-- R5: a count of M or more is malformed. -/
theorem State.intakeSample_of_modulus_le (h : s.bank.modulus ≤ f.count) : s.intakeSample f = s.countMalformed :=
  if_pos h

/-- R5: an identifier of no enabled record is foreign. -/
theorem State.intakeSample_of_foreign (h : f.count < s.bank.modulus) (unmatched : s.bank.matchIdent f.ident = none) :
    s.intakeSample f = s.countForeign := by
  rw [State.intakeSample, if_neg (by omega), unmatched]

/-- R5 to R8: a matched frame counts its saturations and becomes the last of the arrivals that wait. -/
theorem State.intakeSample_of_match {k : Fin 8} (h : f.count < s.bank.modulus)
    (matched : s.bank.matchIdent f.ident = some k) :
    s.intakeSample f =
      (s.countSaturations k (saturations (s.bank.source k) f.raw)).setRing
        { s.ring with waiting := s.ring.waiting ++ [formArrival s.bank k f] } := by
  rw [State.intakeSample, if_neg (by omega), matched]

end

/-- R7: the saturations of a frame, value by value. -/
theorem saturations_eq_add (r : SourceRecord) (raw : Phases) :
    saturations r raw =
      (if saturate (scaleExact r raw.a) = scaleExact r raw.a then 0 else 1)
        + (if saturate (scaleExact r raw.b) = scaleExact r raw.b then 0 else 1)
        + (if saturate (scaleExact r raw.c) = scaleExact r raw.c then 0 else 1) := by
  simp only [saturations, List.countP_cons, List.countP_nil, bne_iff_ne, ite_not]
  omega

/-- Settles O11: the frame reaches intake as sent, and the record that holds its identifier, if any, is the only one. -/
theorem sampleFrameBecomesAnArrival : Obligations.SampleFrameBecomesAnArrival := by
  intro s f running synced sendable
  rw [exec_sampleFrame running synced sendable]
  refine ⟨fun tooHigh => ?malformed, fun early unmatched => ?foreign, fun k early enabled same => ?arrival⟩
  case malformed =>
    rw [State.intakeSample_of_modulus_le tooHigh]
    rfl
  case foreign =>
    rw [State.intakeSample_of_foreign early ((s.bank.matchIdent_eq_none_iff f.ident).2 unmatched)]
    rfl
  case arrival =>
    rw [State.intakeSample_of_match early ((s.bank.matchIdent_eq_some_iff f.ident k).2 ⟨enabled, same⟩),
      saturations_eq_add]
    rfl

/-! ### Source states at a released set (R11) -/

section
variable {x : SourceStatus} {n : Nat}

/-- R11: a RECOVERING source whose run reaches RECOVER_SETS becomes ACTIVE. -/
theorem SourceStatus.onPresent_of_recovered (state : x.state = .recovering) (reached : n ≤ x.run + 1) :
    x.onPresent n = ⟨.active, x.run + 1, 0⟩ := by
  simp [SourceStatus.onPresent, state, reached]

/-- R11: a RECOVERING source whose run falls short of RECOVER_SETS counts on. -/
theorem SourceStatus.onPresent_of_recovering (state : x.state = .recovering) (short : x.run + 1 < n) :
    x.onPresent n = ⟨.recovering, x.run + 1, x.hold⟩ := by
  simp [SourceStatus.onPresent, state, Nat.not_le.2 short]

theorem SourceStatus.onPresent_of_active (state : x.state = .active) : x.onPresent n = ⟨.active, x.run, 0⟩ := by
  simp [SourceStatus.onPresent, state]

theorem SourceStatus.onPresent_of_lost (state : x.state = .lost) : x.onPresent n = ⟨.recovering, 1, 0⟩ := by
  simp [SourceStatus.onPresent, state]

theorem SourceStatus.onHeld_of_recovering (state : x.state = .recovering) :
    x.onHeld n = ⟨if n ≤ x.hold + 1 then .lost else .recovering, 0, x.hold + 1⟩ := by
  simp [SourceStatus.onHeld, state]

theorem SourceStatus.onHeld_of_active (state : x.state = .active) :
    x.onHeld n = ⟨if n ≤ x.hold + 1 then .lost else .active, x.run, x.hold + 1⟩ := by
  simp [SourceStatus.onHeld, state]

theorem SourceStatus.onHeld_of_lost (state : x.state = .lost) : x.onHeld n = x := by
  simp [SourceStatus.onHeld, state]

end

/-- Clearing windows is the transform unit's alone. -/
@[simp] theorem State.clearWindows_intake (s : State) (ns : List (Fin 6)) : (s.clearWindows ns).intake = s.intake := by
  induction ns generalizing s with
  | nil => rfl
  | cons n ns ih => exact ih (s.clearWindow n)

/-- R11: what intake's update leaves of a source. -/
theorem State.intakeRelease_source (s : State) (set : ReleasedSet) (k : Fin 8) :
    (s.intakeRelease set).intake.sources[k] = nextStatus s.bank set k s.intake.sources[k] := by
  simp [State.intakeRelease, Intake.withSources, nextSources]

theorem nextStatus_of_some {b : Bank} {set : ReleasedSet} {k : Fin 8} {x : SetSource} (part : set.sources[k] = some x)
    (before : SourceStatus) :
    nextStatus b set k before =
      if x.present then before.onPresent (b.count .recoverSets) else before.onHeld (b.source k).holdLimit := by
  simp only [nextStatus, part]

/-- Settles O12: one equation per row of R11's table. -/
theorem sourceStateTable : Obligations.SourceStateTable := by
  intro s set k x part before after limit
  have update : after =
      if x.present then before.onPresent (s.bank.count .recoverSets) else before.onHeld limit :=
    (s.intakeRelease_source set k).trans (nextStatus_of_some part before)
  have present (h : x.present = true) : after = before.onPresent (s.bank.count .recoverSets) :=
    update.trans (if_pos h)
  have held (h : x.present = false) : after = before.onHeld limit :=
    update.trans (if_neg (by simp [h]))
  exact
    ⟨fun state h reached => (present h).trans (SourceStatus.onPresent_of_recovered state reached),
      fun state h short => (present h).trans (SourceStatus.onPresent_of_recovering state short),
      fun state h => (present h).trans (SourceStatus.onPresent_of_active state),
      fun state h => (present h).trans (SourceStatus.onPresent_of_lost state),
      fun state h => (held h).trans (SourceStatus.onHeld_of_recovering state),
      fun state h => (held h).trans (SourceStatus.onHeld_of_active state),
      fun state h => (held h).trans (SourceStatus.onHeld_of_lost state)⟩

end Sys2Proof.Machine

/-! The released set: what it holds of each source, and the held counter and last released values after it (R31 to
R33). -/

namespace Sys2Proof.Machine

/-! ### One source in a released set (R31) -/

section
variable {last : Phases} {place : Option Sample}

theorem setSource_of_usable {x : Sample} (usable : x.usable = true) : setSource last (some x) = ⟨true, x.values⟩ :=
  if_pos usable

/-- R31: no arrival at the base and an unusable one are held alike. -/
theorem setSource_of_not_usable (unusable : place.any Sample.usable = false) :
    setSource last place = ⟨false, last⟩ := by
  cases place with
  | none => rfl
  | some x => exact if_neg (Bool.eq_false_iff.1 unusable)

/-- R31: a source is present exactly with a usable arrival at the base. -/
@[simp] theorem setSource_present : (setSource last place).present = place.any Sample.usable := by
  cases place with
  | none => rfl
  | some x => cases usable : x.usable <;> simp [setSource, usable]

end

/-! ### The set at the base (R31, R10) -/

section
variable {b : Bank} {k : Fin 8}

theorem formSet_source_of_disabled (r : Ring) (disabled : (b.source k).enabled = false) :
    (formSet b r).sources[k] = none := by
  simp [formSet, disabled]

theorem formSet_source_of_enabled (r : Ring) (enabled : (b.source k).enabled = true) :
    (formSet b r).sources[k] = some (setSource r.lastValues[k] (r.slots[0])[k]) := by
  simp [formSet, enabled]

/-- R10, R31: a set formed holds the enabled sources without a usable arrival at the base. -/
theorem formSet_isHeld (b : Bank) (r : Ring) (k : Fin 8) :
    (formSet b r).isHeld k = ((b.source k).enabled && !((r.slots[0])[k]).any Sample.usable) := by
  rw [ReleasedSet.isHeld]
  cases part : (b.source k).enabled with
  | false => rw [formSet_source_of_disabled r part, Bool.false_and]
  | true => rw [formSet_source_of_enabled r part, Bool.true_and, ← setSource_present]

end

/-! ### The counter and the last released values (R32, R33) -/

/-- R32: the held counter rises by the sources held, and stays at its maximum. -/
theorem State.noteSet_held (s : State) (set : ReleasedSet) :
    (s.noteSet set).intake.counters.held = min 65535 (s.intake.counters.held + sourceIndices.countP set.isHeld) := rfl

section
variable (s : State) {set : ReleasedSet} {k : Fin 8}

/-- R33: a source that takes part is left its values in the set, any other the ones it had. -/
theorem State.noteSet_lastValues (set : ReleasedSet) (k : Fin 8) :
    (s.noteSet set).ring.lastValues[k] = (set.values k).getD s.ring.lastValues[k] := by
  simp [State.noteSet, lastValuesAfter]

theorem State.noteSet_lastValues_of_none (out : set.sources[k] = none) :
    (s.noteSet set).ring.lastValues[k] = s.ring.lastValues[k] := by
  rw [s.noteSet_lastValues, ReleasedSet.values, out, Option.map_none, Option.getD_none]

theorem State.noteSet_lastValues_of_some {x : SetSource} (part : set.sources[k] = some x) :
    (s.noteSet set).ring.lastValues[k] = x.values := by
  rw [s.noteSet_lastValues, ReleasedSet.values, part, Option.map_some, Option.getD_some]

end

/-- Settles O17: each record is disabled, enabled with a usable arrival at the base, or held. -/
theorem releasedSetIsFormed : Obligations.ReleasedSetIsFormed := by
  intro s k set t held
  have heldIn : set.isHeld = held := funext (formSet_isHeld s.bank s.ring)
  refine ⟨rfl, fun disabled => ?disabled, fun x enabled arrived usable => ?present, fun isHeld => ?held, ?counter⟩
  case disabled =>
    have out : set.sources[k] = none := formSet_source_of_disabled s.ring disabled
    exact ⟨out, s.noteSet_lastValues_of_none out⟩
  case present =>
    have part : set.sources[k] = some ⟨true, x.values⟩ := by
      rw [formSet_source_of_enabled s.ring enabled, arrived, setSource_of_usable usable]
    exact ⟨part, s.noteSet_lastValues_of_some part⟩
  case held =>
    obtain ⟨enabled, unusable⟩ :
        (s.bank.source k).enabled = true ∧ ((s.ring.slots[0])[k]).any Sample.usable = false := by
      simpa [held] using isHeld
    have part : set.sources[k] = some ⟨false, s.ring.lastValues[k]⟩ := by
      rw [formSet_source_of_enabled s.ring enabled, setSource_of_not_usable unusable]
    exact ⟨part, s.noteSet_lastValues_of_some part⟩
  case counter =>
    rw [← heldIn]
    exact s.noteSet_held set

end Sys2Proof.Machine

/-! The angle tracker: what each part of its handling of a released set gives and what it leaves alone (R42 to R51), and
the closing of a cycle (R52, R53). -/

namespace Sys2Proof.Machine

/-! ### The offer of a condition's change (R174, R176) -/

/-- R176: one owner's offer of a condition's change, with the stamps of R174, is routed by the REPORT table. -/
theorem State.offer_changed (s : State) (c : Condition) (was is : Bool) :
    s.offer (changed c was is s.tracker.cycle s.ring.lastReleased) = s.noteChange c was is := by
  rw [State.offer_eq, State.noteChange, changed]
  by_cases same : was = is
  · rw [if_pos same, if_pos same]; rfl
  · rw [if_neg same, if_neg same]
    cases routing : s.bank.routing c <;> cases is <;>
      simp [Offer.routed, routing, State.recorded, State.setEvents]

theorem State.offerChanges_single (s before : State) (c : Condition) :
    s.offerChanges before [c] = s.noteChange c (before.cond c) (s.cond c) := by
  rw [State.offerChanges, changeOffers_cons, changeOffers_nil, List.append_nil, State.offer_changed]

section
variable {b : Bank} {t : Tracker} {v : Phases}

/-! ### Measuring (R42 to R44) -/

theorem Bank.sine_mod (b : Bank) (i : Nat) : b.sine (i % 256) = b.sine i := by
  rw [Bank.sine, Nat.mod_mod, ← Bank.sine]

/-- R43, R44: both SINE entries are read at their index modulo 256, from P before the advance. -/
theorem Tracker.measure_eq (b : Bank) (v : Phases) (t : Tracker) :
    t.measure b v =
      let x := clarkeAlpha v.a v.b v.c
      let y := clarkeBeta v.b v.c
      let sn := b.sine (t.phase / 256 % 256)
      let cs := b.sine ((t.phase / 256 + 64) % 256)
      { t with vd := rotateDirect x y sn cs, vq := rotateQuadrature x y sn cs } := by
  simp only [Bank.sine_mod]
  rfl

/-! ### Sag (R45) -/

theorem Tracker.sagRuns_of_below (below : t.vd < b.param .sagLevel) :
    t.sagRuns b = { t with sagRun := min 4 (t.sagRun + 1), sagClearRun := 0 } := if_pos below

theorem Tracker.sagRuns_of_clear (clear : b.param .sagLevel ≤ t.vd) :
    t.sagRuns b = { t with sagRun := 0, sagClearRun := min 4 (t.sagClearRun + 1) } := if_neg clear.not_gt

theorem Tracker.sagRuns_frame (b : Bank) (t : Tracker) :
    t.sagRuns b = { t with sagRun := (t.sagRuns b).sagRun, sagClearRun := (t.sagRuns b).sagClearRun } := by
  unfold Tracker.sagRuns
  split <;> rfl

@[simp] theorem Tracker.sagRuns_sag : (t.sagRuns b).sag = t.sag := by rw [sagRuns_frame]
@[simp] theorem Tracker.sagRuns_vq : (t.sagRuns b).vq = t.vq := by rw [sagRuns_frame]
@[simp] theorem Tracker.sagRuns_integrator : (t.sagRuns b).integrator = t.integrator := by rw [sagRuns_frame]

theorem Tracker.sagState_sag_iff (t : Tracker) :
    t.sagState.sag = true ↔ if t.sag = true then t.sagClearRun ≠ 4 else t.sagRun = 4 := by
  cases on : t.sag <;> simp [Tracker.sagState, on]

/-! ### Integrator (R46) -/

theorem Tracker.integrate_of_sag (on : t.sag = true) : t.integrate b = t := if_pos on

theorem Tracker.integrate_of_no_sag (off : t.sag = false) :
    t.integrate b =
      { t with
        integrator := max (-16384) (min 16384 (t.integrator + roundedShift 6 (t.vq * b.param .pllKi))) } := by
  rw [Tracker.integrate, if_neg (Bool.eq_false_iff.1 off), clampInt_eq_max_min (by decide)]

theorem Tracker.integrate_frame (b : Bank) (t : Tracker) :
    t.integrate b = { t with integrator := (t.integrate b).integrator } := by
  unfold Tracker.integrate
  split <;> rfl

/-! ### Up to the integrator (R42 to R46) -/

/-- Nothing moves but the latest figures, the sag runs, SAG and the integrator. -/
theorem Tracker.withVoltage_frame (b : Bank) (v : Phases) (t : Tracker) :
    let measured := t.measure b v
    let ran := measured.sagRuns b
    t.withVoltage b v =
      { t with
        vd := measured.vd, vq := measured.vq, sagRun := ran.sagRun, sagClearRun := ran.sagClearRun
        sag := ran.sagState.sag, integrator := (t.withVoltage b v).integrator } := by
  intro measured ran
  calc t.withVoltage b v
      = { ran.sagState with integrator := (t.withVoltage b v).integrator } := ran.sagState.integrate_frame b
    _ = _ := by rw [Tracker.sagState, show ran = _ from measured.sagRuns_frame b]; rfl

theorem Tracker.withVoltage_vd : (t.withVoltage b v).vd = (t.measure b v).vd := by
  rw [withVoltage_frame]

theorem Tracker.withVoltage_vq : (t.withVoltage b v).vq = (t.measure b v).vq := by
  rw [withVoltage_frame]

theorem Tracker.withVoltage_sagRun : (t.withVoltage b v).sagRun = ((t.measure b v).sagRuns b).sagRun := by
  rw [withVoltage_frame]

theorem Tracker.withVoltage_sagClearRun :
    (t.withVoltage b v).sagClearRun = ((t.measure b v).sagRuns b).sagClearRun := by
  rw [withVoltage_frame]

theorem Tracker.withVoltage_sag : (t.withVoltage b v).sag = ((t.measure b v).sagRuns b).sagState.sag := by
  rw [withVoltage_frame]

@[simp] theorem Tracker.withVoltage_locked : (t.withVoltage b v).locked = t.locked := by
  rw [withVoltage_frame]

@[simp] theorem Tracker.withVoltage_lockRun : (t.withVoltage b v).lockRun = t.lockRun := by
  rw [withVoltage_frame]

@[simp] theorem Tracker.withVoltage_unlockRun : (t.withVoltage b v).unlockRun = t.unlockRun := by
  rw [withVoltage_frame]

theorem Tracker.withVoltage_of_below (below : (t.withVoltage b v).vd < b.param .sagLevel) :
    (t.withVoltage b v).sagRun = min 4 (t.sagRun + 1) ∧ (t.withVoltage b v).sagClearRun = 0 := by
  rw [withVoltage_sagRun, withVoltage_sagClearRun, sagRuns_of_below (withVoltage_vd ▸ below)]
  exact ⟨rfl, rfl⟩

theorem Tracker.withVoltage_of_clear (clear : b.param .sagLevel ≤ (t.withVoltage b v).vd) :
    (t.withVoltage b v).sagRun = 0 ∧ (t.withVoltage b v).sagClearRun = min 4 (t.sagClearRun + 1) := by
  rw [withVoltage_sagRun, withVoltage_sagClearRun, sagRuns_of_clear (withVoltage_vd ▸ clear)]
  exact ⟨rfl, rfl⟩

theorem Tracker.withVoltage_sag_iff :
    (t.withVoltage b v).sag = true ↔
      if t.sag = true then (t.withVoltage b v).sagClearRun ≠ 4 else (t.withVoltage b v).sagRun = 4 := by
  rw [withVoltage_sag, sagState_sag_iff, sagRuns_sag, withVoltage_sagRun, withVoltage_sagClearRun]
  rfl

theorem Tracker.withVoltage_integrator_of_sag (on : (t.withVoltage b v).sag = true) :
    (t.withVoltage b v).integrator = t.integrator := by
  rw [withVoltage_sag] at on
  rw [Tracker.withVoltage, integrate_of_sag on]
  exact sagRuns_integrator

theorem Tracker.withVoltage_integrator_of_no_sag (off : (t.withVoltage b v).sag = false) :
    (t.withVoltage b v).integrator =
      max (-16384) (min 16384
        (t.integrator + roundedShift 6 ((t.withVoltage b v).vq * b.param .pllKi))) := by
  rw [withVoltage_sag] at off
  rw [withVoltage_vq, Tracker.withVoltage, integrate_of_no_sag off]
  simp [Tracker.sagState, Tracker.measure]

/-- R46: the integrator stays within its clamp, whether SAG freezes it or not. -/
theorem Tracker.withVoltage_integrator_mem (lower : -16384 ≤ t.integrator) (upper : t.integrator ≤ 16384) :
    -16384 ≤ (t.withVoltage b v).integrator ∧ (t.withVoltage b v).integrator ≤ 16384 := by
  cases sag : (t.withVoltage b v).sag with
  | true => rw [withVoltage_integrator_of_sag sag]; exact ⟨lower, upper⟩
  | false => rw [withVoltage_integrator_of_no_sag sag]; omega

/-! ### Phase step (R47) -/

theorem Tracker.step_eq (b : Bank) (t : Tracker) :
    t.step b = 1024 + roundedShift 8 t.integrator
      + max (-128) (min 128 (roundedShift 10 (t.vq * b.param .pllKp))) := by
  rw [Tracker.step, Tracker.freeStep, clampInt_eq_max_min (by decide)]

/-- R47: the integral term lies within −64..+64 and the proportional one within −128..+128. -/
theorem Tracker.step_mem (lower : -16384 ≤ t.integrator) (upper : t.integrator ≤ 16384) :
    832 ≤ t.step b ∧ t.step b ≤ 1216 := by
  have integral : (roundedShift 8 t.integrator).natAbs ≤ 64 := roundedShift_natAbs_le (by omega)
  rw [t.step_eq b]
  omega

/-! ### Lock (R49) -/

theorem Tracker.lockRuns_of_within_locked (within : t.vq.natAbs ≤ b.param .lockBand) (locked : t.locked = true) :
    t.lockRuns b = { t with unlockRun := 0 } := by
  rw [Tracker.lockRuns, if_pos within, if_pos locked]

theorem Tracker.lockRuns_of_within_short (within : t.vq.natAbs ≤ b.param .lockBand) (unlocked : t.locked = false)
    (short : t.lockRun + 1 < 64) : t.lockRuns b = { t with lockRun := t.lockRun + 1 } := by
  rw [Tracker.lockRuns, if_pos within, if_neg (Bool.eq_false_iff.1 unlocked), if_neg short.not_ge]

theorem Tracker.lockRuns_of_within_reached (within : t.vq.natAbs ≤ b.param .lockBand) (unlocked : t.locked = false)
    (reached : 64 ≤ t.lockRun + 1) : t.lockRuns b = { t with locked := true, lockRun := 0, unlockRun := 0 } := by
  rw [Tracker.lockRuns, if_pos within, if_neg (Bool.eq_false_iff.1 unlocked), if_pos reached]

theorem Tracker.lockRuns_of_outside_unlocked (outside : b.param .lockBand < t.vq.natAbs) (unlocked : t.locked = false) :
    t.lockRuns b = { t with lockRun := 0 } := by
  rw [Tracker.lockRuns, if_neg outside.not_ge, if_neg (Bool.eq_false_iff.1 unlocked)]

theorem Tracker.lockRuns_of_outside_short (outside : b.param .lockBand < t.vq.natAbs) (locked : t.locked = true)
    (short : t.unlockRun + 1 < 16) : t.lockRuns b = { t with unlockRun := t.unlockRun + 1 } := by
  rw [Tracker.lockRuns, if_neg outside.not_ge, if_pos locked, if_neg short.not_ge]

theorem Tracker.lockRuns_of_outside_reached (outside : b.param .lockBand < t.vq.natAbs) (locked : t.locked = true)
    (reached : 16 ≤ t.unlockRun + 1) : t.lockRuns b = { t with locked := false, lockRun := 0, unlockRun := 0 } := by
  rw [Tracker.lockRuns, if_neg outside.not_ge, if_pos locked, if_pos reached, Tracker.unlock]

theorem Tracker.lockRuns_frame (b : Bank) (t : Tracker) :
    t.lockRuns b =
      { t with
        locked := (t.lockRuns b).locked, lockRun := (t.lockRuns b).lockRun
        unlockRun := (t.lockRuns b).unlockRun } := by
  unfold Tracker.lockRuns Tracker.unlock
  split_ifs <;> rfl

/-- The column of R49's table for a set within the band. -/
theorem Tracker.lockRuns_of_within (within : t.vq.natAbs ≤ b.param .lockBand) :
    let u := t.lockRuns b
    if t.locked = true then u.locked = true ∧ u.lockRun = t.lockRun ∧ u.unlockRun = 0
    else if t.lockRun + 1 < 64 then u.locked = false ∧ u.lockRun = t.lockRun + 1 ∧ u.unlockRun = t.unlockRun
    else u.locked = true ∧ u.lockRun = 0 ∧ u.unlockRun = 0 := by
  intro u
  split_ifs with locked short
  · simp [u, lockRuns_of_within_locked within locked, locked]
  · have unlocked := Bool.eq_false_iff.2 locked
    simp [u, lockRuns_of_within_short within unlocked short, unlocked]
  · simp [u, lockRuns_of_within_reached within (Bool.eq_false_iff.2 locked) (not_lt.1 short)]

/-- The column of R49's table for a set outside the band. -/
theorem Tracker.lockRuns_of_outside (outside : b.param .lockBand < t.vq.natAbs) :
    let u := t.lockRuns b
    if t.locked = false then u.locked = false ∧ u.lockRun = 0 ∧ u.unlockRun = t.unlockRun
    else if t.unlockRun + 1 < 16 then u.locked = true ∧ u.lockRun = t.lockRun ∧ u.unlockRun = t.unlockRun + 1
    else u.locked = false ∧ u.lockRun = 0 ∧ u.unlockRun = 0 := by
  intro u
  split_ifs with unlocked short
  · simp [u, lockRuns_of_outside_unlocked outside unlocked, unlocked]
  · have locked := Bool.eq_true_of_not_eq_false unlocked
    simp [u, lockRuns_of_outside_short outside locked short, locked]
  · simp [u, lockRuns_of_outside_reached outside (Bool.eq_true_of_not_eq_false unlocked) (not_lt.1 short)]

/-! ### A released set (R41, R48, R50, R51) -/

/-- R48: P after the advance, as the exact sum modulo 65536. -/
theorem Tracker.advance_phase (step : Int) (t : Tracker) :
    ((t.advance step).phase : Int) = (t.phase + step) % 65536 :=
  Int.toNat_of_nonneg (Int.emod_nonneg _ (by decide))

/-- R41: a set with a voltage in use, from the figures up to the integrator and the lock runs. -/
theorem Tracker.handle_some (b : Bank) (t : Tracker) (v : Phases) :
    let w := t.withVoltage b v
    let l := w.lockRuns b
    t.handle b (some v) =
      ({ t with
          vd := w.vd, vq := w.vq, sagRun := w.sagRun, sagClearRun := w.sagClearRun, sag := w.sag
          integrator := w.integrator, locked := l.locked, lockRun := l.lockRun, unlockRun := l.unlockRun
          phase := (t.advance (w.step b)).phase
          cycleSets := t.cycleSets + 1, cycleSum := t.cycleSum + w.vd },
        decide (65536 ≤ (t.phase : Int) + w.step b)) := by
  intro w l
  have handled : t.handle b (some v) = ((l.advance (w.step b)).addToCycle true, l.endsCycle (w.step b)) := rfl
  rw [handled, show l = _ from w.lockRuns_frame b, show w = _ from t.withVoltage_frame b v, Tracker.addToCycle,
    Bool.and_true]
  rfl

/-- R50: a set with no voltage in use. -/
theorem Tracker.handle_none (b : Bank) (t : Tracker) :
    t.handle b none =
      ({ t with
          vd := 0, vq := 0, locked := false, lockRun := 0, unlockRun := 0
          phase := (t.advance t.freeStep).phase, cycleSets := t.cycleSets + 1, cycleVoltage := false },
        decide (65536 ≤ (t.phase : Int) + t.freeStep)) := by
  have handled : t.handle b none =
      ((t.freeRun.advance t.freeStep).addToCycle false, t.freeRun.endsCycle t.freeStep) := rfl
  rw [handled, Tracker.addToCycle, Bool.and_false]
  rfl

end

/-- Settles O19: with a voltage in use the set is read off the figures up to the integrator and the lock runs; with none
the tracker runs free. -/
theorem trackerHandlesAReleasedSet : Obligations.TrackerHandlesAReleasedSet := by
  refine ⟨fun b t v => ?voltage, fun b t => t.handle_none b⟩
  case voltage =>
    intro i sn cs x y vd vq u step
    let w := t.withVoltage b v
    have figures := t.measure_eq b v
    have vdEq : vd = w.vd := by rw [Tracker.withVoltage_vd, figures]; rfl
    have vqEq : vq = w.vq := by rw [Tracker.withVoltage_vq, figures]; rfl
    have handled := t.handle_some b v
    have uEq : u = _ := congrArg Prod.fst handled
    have ends : (t.handle b (some v)).2 = _ := congrArg Prod.snd handled
    have stepEq : step = w.step b := by rw [w.step_eq b, ← vqEq, show w.integrator = u.integrator by rw [uEq]]
    have within := Tracker.lockRuns_of_within (b := b) (t := w)
    have outside := Tracker.lockRuns_of_outside (b := b) (t := w)
    rw [Tracker.withVoltage_locked, Tracker.withVoltage_lockRun, Tracker.withVoltage_unlockRun] at within outside
    clear_value step u vd vq
    subst vdEq vqEq stepEq uEq
    rw [ends, decide_eq_true_iff]
    exact
      ⟨rfl, rfl, Tracker.withVoltage_of_below, Tracker.withVoltage_of_clear, Tracker.withVoltage_sag_iff,
        Tracker.withVoltage_integrator_of_no_sag, Tracker.withVoltage_integrator_of_sag,
        fun lower upper =>
          have ⟨least, most⟩ := Tracker.withVoltage_integrator_mem lower upper
          Tracker.step_mem least most,
        t.advance_phase _, Iff.rfl, within, outside, rfl, rfl, rfl, rfl, rfl, rfl, rfl⟩

/-! ### The closing of a cycle (R52, R53) -/

section
variable {b : Bank} {t : Tracker}

/-- R52: the closing of a cycle in which every set had a voltage in use. -/
theorem Tracker.closeCycle_of_voltage (whole : t.cycleVoltage = true) :
    let mean := t.cycleSum.tdiv t.cycleSets
    t.closeCycle b =
      { t with
        cycle := (t.cycle + 1) % 65536, lastMean := some mean
        lastStep := t.lastMean.map fun last => min 32767 (mean - last).natAbs
        overvoltage :=
          if t.overvoltage then decide (b.param .ovLevel - 164 ≤ mean) else decide (b.param .ovLevel < mean)
        cycleSum := 0, cycleSets := 0, cycleVoltage := true } := by
  intro mean
  have formed : t.cycleMean = some mean := if_pos whole
  rw [Tracker.closeCycle, Tracker.fluctuation, Tracker.nextOvervoltage, formed]
  cases t.lastMean <;> rfl

/-- R52: the closing of a cycle with a set that had no voltage in use. -/
theorem Tracker.closeCycle_of_no_voltage (lost : t.cycleVoltage = false) :
    t.closeCycle b =
      { t with
        cycle := (t.cycle + 1) % 65536, lastMean := none, lastStep := none
        cycleSum := 0, cycleSets := 0, cycleVoltage := true } := by
  have absent : t.cycleMean = none := if_neg (Bool.eq_false_iff.1 lost)
  rw [Tracker.closeCycle, Tracker.fluctuation, Tracker.nextOvervoltage, absent]

end

/-- Settles O20: a cycle closes with a mean or, where a set of it had no voltage in use, without one. -/
theorem cycleCloses : Obligations.CycleCloses := by
  intro s t u mean
  refine ⟨(s.setTracker u).offerChanges_single s .overvoltage, rfl, fun whole => ?mean, fun lost => ?noMean, rfl⟩
  case mean =>
    have closed : u = _ := Tracker.closeCycle_of_voltage (b := s.bank) whole
    have lastStep : u.lastStep = t.lastMean.map fun last => min 32767 (mean - last).natAbs := by rw [closed]
    have overvoltage : u.overvoltage =
        if t.overvoltage then decide (s.bank.param .ovLevel - 164 ≤ mean)
        else decide (s.bank.param .ovLevel < mean) := by rw [closed]
    refine ⟨by rw [closed], fun first => ?_, fun m last => ?_, fun off => ?_, fun on => ?_⟩
    · rw [lastStep, first, Option.map_none]
    · rw [lastStep, last, Option.map_some]
    · rw [overvoltage, off]; exact decide_eq_true_iff
    · rw [overvoltage, on]; exact decide_eq_true_iff
  case noMean =>
    have closed : u = _ := Tracker.closeCycle_of_no_voltage (b := s.bank) lost
    rw [closed]
    exact ⟨rfl, rfl, rfl⟩

end Sys2Proof.Machine

/-! The cycle windows: what a ring takes in, what a set gives each feeder's window, and the averages (R57 to R62,
R69). -/

namespace Sys2Proof.Machine

/-! ### A ring and a window (R61, R69) -/

/-- R61: the oldest entry leaves the ring and its sum, and the new value enters both. -/
theorem WindowRing.feed_entries_sum (r : WindowRing) (x : Iu) :
    (r.feed x).entries = r.entries.drop 1 ++ [x] ∧ (r.feed x).sum = r.sum - (r.entries.head?).getD 0 + x := by
  rw [WindowRing.feed, List.drop_one, List.headD_eq_head?_getD]
  exact ⟨rfl, rfl⟩

@[simp] theorem Window.onSet_none (w : Nat) (win : Window) (sn cs : Iu) : win.onSet w sn cs none = win := rfl

@[simp] theorem Window.onSet_some (w : Nat) (win : Window) (sn cs : Iu) (v : Phases) :
    win.onSet w sn cs (some v) = win.feed w (clarkeAlpha v.a v.b v.c) (clarkeBeta v.b v.c) sn cs := rfl

/-! ### The six windows at a set (R57) -/

@[simp] theorem State.feedWindows_length (s : State) (i : Nat) (values : Vector (Option Phases) 6) :
    (s.feedWindows i values).transform.length = s.transform.length := rfl

/-- R57: a feeder's window after a set depends on its own window and values alone. -/
theorem State.feedWindows_window (s : State) (i : Nat) (values : Vector (Option Phases) 6) (n : Fin 6) :
    (s.feedWindows i values).transform.windows[n] =
      (s.transform.windows[n]).onSet s.transform.length (s.bank.sine i) (s.bank.cosine i) values[n] := by
  simp only [State.feedWindows, State.setTransform_transform, Fin.getElem_fin, Vector.getElem_ofFn]

/-! ### Averages (R62) -/

theorem Transform.averages_eq (t : Transform) (n : Fin 6) :
    let k := if t.length = 32 then 5 else 6
    t.averages n =
      ⟨roundedShift k (t.windows[n]).idPos.sum, roundedShift k (t.windows[n]).iqPos.sum,
        roundedShift k (t.windows[n]).idNeg.sum, roundedShift k (t.windows[n]).iqNeg.sum⟩ := rfl

/-- Settles O23: each feeder's window is its own window after its own values, fed ring by ring or left as it stands; its
averages are read off its sums at the length the set leaves in force. -/
theorem fedFeederEntersItsWindow : Obligations.FedFeederEntersItsWindow := by
  intro s i values n w u sn cs fed
  have window : u.windows[n] = w.onSet s.transform.length sn cs values[n] := s.feedWindows_window i values n
  refine ⟨fun unfed => ?kept, fun v present => ?taken, fun _ => ?averages⟩
  case kept => rw [window, unfed, Window.onSet_none]
  case taken =>
    rw [window, present, Window.onSet_some]
    exact
      ⟨w.idPos.feed_entries_sum _, w.iqPos.feed_entries_sum _, w.idNeg.feed_entries_sum _,
        w.iqNeg.feed_entries_sum _, rfl⟩
  case averages =>
    have length : u.length = s.transform.length := s.feedWindows_length i values
    rw [← length]
    exact u.averages_eq n

end Sys2Proof.Machine

/-! The injection requests and the countdown of an injection in sets (R88 to R91). -/

namespace Sys2Proof.Machine

/-! ### The service of a request the gate lets through (R155, R156, R159) -/

section
variable {s : State} {c : RequestCode} {r : Request} {rest : List Request}

/-- R156: the head of the queue removed. -/
theorem State.removeHead_eq_dropped (queue : s.engine.queue = r :: rest) : s.removeHead = s.dropped rest := by
  rw [State.removeHead, queue]
  rfl

/-- R155, R156: a request let through is handled and answered, or dropped where it is a broadcast and its code is not
served as one. -/
theorem State.serve_of_gate {handle : State → Request → Handled} {t : State} {p : Reply} (head : AtHead s c r rest)
    (through : gate s.engine.protection c = none) (alone : c.servedBroadcast = false)
    (handled : handle s r = t.handled p) (queue : t.engine.queue = s.engine.queue) :
    s.serve c handle = if r.address = 63 then s.dropped rest else t.ended r rest p := by
  rw [State.serve_of_atHead handle head]
  split_ifs with all
  · rw [State.serveRequest, alone, (Request.broadcast_iff r).2 all]
    exact State.removeHead_eq_dropped head.queue
  · rw [State.serveRequest_of_gate handle through (.inl all), handled]
    exact State.answer_eq_ended p (queue.trans head.queue)

end

/-- R176: a change's routing reaches the event unit alone, so the queue of requests stays. -/
@[simp] theorem State.noteChange_engine (s : State) (c : Condition) (was is : Bool) :
    (s.noteChange c was is).engine = s.engine := by
  rw [← State.offer_changed]
  rfl

/-! ### INJECT and INJECT_CLEAR (R88, R90, R91) -/

/-- R159: INJECT is let through in OPEN and UNLOCKED. -/
theorem gate_inject {p : Protection} (writable : p = .opened ∨ p = .unlocked) : gate p .inject = none := by
  rcases writable with rfl | rfl <;> rfl

/-- R159: INJECT_CLEAR is let through in every protection state. -/
theorem gate_injectClear (p : Protection) : gate p .injectClear = none := by
  cases p <;> rfl

theorem Request.phases_of_params {r : Request} {ah al bh bl ch cl n : Word}
    (params : r.params = [ah, al, bh, bl, ch, cl, n]) :
    r.phases = ⟨value24 ah al, value24 bh bl, value24 ch cl⟩ := by
  simp [Request.phases, Request.phase, params]

theorem Composer.inject_wordDuration (c : Composer) (v : Phases) (n : Word) :
    c.inject v n.toNat =
      { c with
        injActive := true, injValues := ⟨saturate v.a, saturate v.b, saturate v.c⟩
        injCounted := decide (n ≠ 0), injRemaining := n.toNat } := by
  have counted : (n.toNat != 0) = decide (n ≠ 0) := by
    rw [Bool.eq_iff_iff, bne_iff_ne, decide_eq_true_iff]
    exact (BitVec.toNat_ne (y := 0)).symm
  rw [Composer.inject, counted]

/-- R88, R91: the handling of INJECT, its change of INJECTING noted. -/
theorem handleInject_eq (s : State) (r : Request) :
    handleInject s r =
      ((s.setComposer (s.composer.inject r.phases (r.param 6))).noteChange .injecting s.composer.injActive true).handled
        ⟨if (s.composer.inject r.phases (r.param 6)).injValues = r.phases then .ok else .clamped, 0, 0, []⟩ := by
  rw [handleInject, State.offerChanges_single]
  rfl

theorem handleInjectClear_of_active {s : State} (active : s.composer.injActive = true) (r : Request) :
    handleInjectClear s r =
      ((s.setComposer { s.composer with injActive := false, injRemaining := 0 }).noteChange .injecting true
        false).handled ⟨.ok, 0, 0, []⟩ := by
  rw [handleInjectClear, if_pos active, State.offerChanges_single, State.cond_injecting, active]
  rfl

theorem handleInjectClear_of_idle {s : State} (idle : s.composer.injActive = false) (r : Request) :
    handleInjectClear s r = s.handled ⟨.ok, 0, 0, []⟩ :=
  if_neg (Bool.eq_false_iff.1 idle)

/-! ### The countdown (R89) -/

theorem Composer.countdown_of_counted {c : Composer} (active : c.injActive = true) (counted : c.injCounted = true) :
    c.countdown = { c with injRemaining := c.injRemaining - 1, injActive := decide (c.injRemaining - 1 ≠ 0) } := by
  rw [Composer.countdown, active, counted]
  rfl

theorem Composer.countdown_of_idle {c : Composer} (idle : c.injActive = false) : c.countdown = c := by
  rw [Composer.countdown, idle]
  rfl

section
variable (c : Composer) (v : Phases)

/-- R89: an injection until cleared is not counted down. -/
theorem Composer.countdown_iterate_inject_zero (k : Nat) : countdown^[k] (c.inject v 0) = c.inject v 0 :=
  Function.iterate_fixed rfl k

/-- R89: a counted injection after `k` sets: each set takes one from the remaining count, and the one that takes the
last ends it. -/
theorem Composer.countdown_iterate_inject {n : Nat} (counted : n ≠ 0) (k : Nat) :
    countdown^[k] (c.inject v n) = { c.inject v n with injActive := decide (k < n), injRemaining := n - k } := by
  induction k with
  | zero => simp [Composer.inject, Nat.pos_of_ne_zero counted]
  | succ k ih =>
    rw [Function.iterate_succ_apply', ih]
    by_cases going : k < n
    · have ends : decide (n - (k + 1) ≠ 0) = decide (k + 1 < n) := decide_eq_decide.2 (by omega)
      rw [Composer.countdown_of_counted (by simpa using going) (by simpa [Composer.inject] using counted)]
      simp only [Nat.sub_sub, ends]
    · have ended : ¬ k + 1 < n := by omega
      have spent : n - k = n - (k + 1) := by omega
      rw [Composer.countdown_of_idle (by simpa using going)]
      simp only [going, ended, spent]

end

/-- Settles O52: each request is let through, handled and answered; the countdown is read off its closed form. -/
theorem injectionRequestsAndCountdown : Obligations.InjectionRequestsAndCountdown := by
  refine ⟨fun s r rest => ⟨fun ah al bh bl ch cl n head writable params => ?inject, fun head => ?clear⟩,
    fun c v n k => ?countdown⟩
  case inject =>
    intro v stored
    have phases : r.phases = v := Request.phases_of_params params
    have duration : r.param 6 = n.toNat := by rw [Request.param, params]; rfl
    have handled := handleInject_eq s r
    rw [phases, duration, Composer.inject_wordDuration] at handled
    exact congrArg Host.Outcome.next
      (State.serve_of_gate head (gate_inject writable) rfl handled (by rw [State.noteChange_engine]))
  case clear =>
    have through := gate_injectClear s.engine.protection
    refine congrArg Host.Outcome.next ?_
    cases active : s.composer.injActive with
    | true =>
      exact State.serve_of_gate head through rfl (handleInjectClear_of_active active r)
        (by rw [State.noteChange_engine])
    | false => exact State.serve_of_gate head through rfl (handleInjectClear_of_idle active r) rfl
  case countdown =>
    intro after
    by_cases forever : n = 0
    · subst forever
      have fixed : after = c.inject v 0 := c.countdown_iterate_inject_zero v k
      rw [fixed]
      exact ⟨rfl, rfl, fun counted => absurd rfl counted, fun _ => ⟨rfl, rfl⟩⟩
    · have counted : after = _ := c.countdown_iterate_inject v forever k
      rw [counted]
      exact ⟨rfl, by simp [Composer.inject, forever], fun _ => ⟨rfl, rfl⟩, fun zero => absurd zero forever⟩

end Sys2Proof.Machine

/-! The monitor selection request (R99). -/

namespace Sys2Proof.Machine

/-! ### The selection a parameter names -/

@[simp] theorem monitorOf_quantity (q : Fin 16) : monitorOf q.val = some (.quantity q) := by
  have notStrap : q.val ≠ 0x0100 := by omega
  rw [monitorOf, if_neg notStrap, dif_pos q.isLt]

@[simp] theorem monitorOf_strap : monitorOf 0x0100 = some .strap := if_pos rfl

theorem monitorOf_eq_none {n : Nat} (large : 16 ≤ n) (notStrap : n ≠ 0x0100) : monitorOf n = none := by
  rw [monitorOf, if_neg notStrap, dif_neg (by omega)]

/-! ### The service of SET_MONITOR -/

/-- R159: SET_MONITOR is let through in every protection state. -/
theorem gate_setMonitor (p : Protection) : gate p .setMonitor = none := by
  cases p <;> rfl

section
variable {s : State} {r : Request} {rest : List Request}

theorem handleSetMonitor_of_some {m : MonitorSelection} (names : monitorOf (r.param 0) = some m) :
    handleSetMonitor s r =
      (s.setEngine { s.engine with monitor := m }).handled ⟨.ok, 0, 0, [wordOf m.code]⟩ := by
  rw [handleSetMonitor, names]
  rfl

theorem handleSetMonitor_of_none (names : monitorOf (r.param 0) = none) :
    handleSetMonitor s r = s.handled ⟨.badValue, 0, 0, [wordOf s.engine.monitor.code]⟩ := by
  rw [handleSetMonitor, names]
  rfl

/-- R99: a parameter that names a selection puts it in force, and the answer carries it. -/
theorem exec_setMonitor_of_some {m : MonitorSelection} (head : AtHead s .setMonitor r rest)
    (names : monitorOf (r.param 0) = some m) :
    exec .setMonitor s =
      .next (if r.address = 63 then s.dropped rest
        else (s.setEngine { s.engine with monitor := m }).ended r rest ⟨.ok, 0, 0, [wordOf m.code]⟩) :=
  congrArg Host.Outcome.next
    (State.serve_of_gate head (gate_setMonitor _) rfl (handleSetMonitor_of_some names) rfl)

/-- R99: a parameter that names none leaves the selection, and the answer carries the one in force. -/
theorem exec_setMonitor_of_none (head : AtHead s .setMonitor r rest) (names : monitorOf (r.param 0) = none) :
    exec .setMonitor s =
      .next (if r.address = 63 then s.dropped rest
        else s.ended r rest ⟨.badValue, 0, 0, [wordOf s.engine.monitor.code]⟩) :=
  congrArg Host.Outcome.next
    (State.serve_of_gate head (gate_setMonitor _) rfl (handleSetMonitor_of_none names) rfl)

/-- R156: a broadcast SET_MONITOR is dropped, whatever its parameter. -/
theorem exec_setMonitor_broadcast (head : AtHead s .setMonitor r rest) (all : r.address = 63) :
    exec .setMonitor s = .next (s.dropped rest) := by
  cases names : monitorOf (r.param 0) with
  | some m => rw [exec_setMonitor_of_some head names, if_pos all]
  | none => rw [exec_setMonitor_of_none head names, if_pos all]

end

/-- Settles O51: what the parameter names decides between the two answers; a broadcast gets neither. -/
theorem setMonitorSelects : Obligations.SetMonitorSelects := by
  intro s r rest head
  refine ⟨exec_setMonitor_broadcast head, fun q alone param => ?quantity, fun alone param => ?strap,
    fun alone large notStrap => ?other⟩
  case quantity =>
    have names : monitorOf (r.param 0) = some (.quantity q) := by rw [param, monitorOf_quantity]
    rw [exec_setMonitor_of_some head names, if_neg alone]
    rfl
  case strap =>
    have names : monitorOf (r.param 0) = some .strap := by rw [param, monitorOf_strap]
    rw [exec_setMonitor_of_some head names, if_neg alone]
    rfl
  case other => rw [exec_setMonitor_of_none head (monitorOf_eq_none large notStrap), if_neg alone]

end Sys2Proof.Machine

/-! The table requests: the answers of WRITE_TABLE, READ_TABLE and CANCEL_SWAP (R117 to R120, R125). -/

namespace Sys2Proof.Machine

/-! ### The service of a table request (R156, R159) -/

/-- R156, R159: the requests served as broadcasts are the table requests that write, which an opened or unlocked part
lets through. -/
theorem gate_of_servedBroadcast {p : Protection} {c : RequestCode} (table : c.servedBroadcast = true)
    (writable : p = .opened ∨ p = .unlocked) : gate p c = none := by
  revert table
  rcases writable with rfl | rfl <;> cases c <;> decide

/-- R159: READ_TABLE is let through in every protection state. -/
theorem gate_readTable (p : Protection) : gate p .readTable = none := by
  cases p <;> rfl

section
variable {s : State} {c : RequestCode} {r : Request} {rest : List Request}

/-- R155, R156: a table request that writes, let through, is handled and answered, a broadcast too. -/
theorem State.serve_of_servedBroadcast {handle : State → Request → Handled} {t : State} {p : Reply}
    (head : AtHead s c r rest) (table : c.servedBroadcast = true)
    (writable : s.engine.protection = .opened ∨ s.engine.protection = .unlocked)
    (handled : handle s r = t.handled p) (queue : t.engine.queue = s.engine.queue) :
    s.serve c handle = t.ended r rest p := by
  have through := gate_of_servedBroadcast table writable
  rw [State.serve_of_atHead handle head, State.serveRequest_of_gate handle through (.inr table), handled]
  exact State.answer_eq_ended p (queue.trans head.queue)

end

/-! ### CANCEL_SWAP (R125) -/

section
variable {s : State} (r : Request)

theorem handleCancelSwap_of_pending (pending : s.store.pendingSwap.isSome = true) :
    handleCancelSwap s r = (s.setStore { s.store with pendingSwap := none }).handled ⟨.ok, 0, 0, []⟩ :=
  if_pos pending

theorem handleCancelSwap_of_none (idle : s.store.pendingSwap = none) :
    handleCancelSwap s r = s.handled ⟨.notPending, 0, 0, []⟩ := by
  rw [handleCancelSwap, idle]
  rfl

end

/-- Settles O35: whether a swap is pending decides between the two answers. -/
theorem cancelSwapRemovesThePendingSwap : Obligations.CancelSwapRemovesThePendingSwap := by
  intro s r rest head writable
  refine ⟨fun pending => congrArg Host.Outcome.next ?_, fun idle => congrArg Host.Outcome.next ?_⟩
  · exact State.serve_of_servedBroadcast head rfl writable (handleCancelSwap_of_pending r pending) rfl
  · exact State.serve_of_servedBroadcast head rfl writable (handleCancelSwap_of_none r idle) rfl

/-! ### WRITE_TABLE (R117 to R119) -/

/-- R119: the outcomes in the order they apply: BAD_VALUE, PARTIAL, CLAMPED, OK. -/
theorem ListWrite.outcome_eq (w : ListWrite) :
    w.outcome =
      if w.ending = .undefinedCode then .badValue
      else if w.ending = .pastEnd then .partialEnd
      else if w.clamped then .clamped
      else .ok := by
  unfold ListWrite.outcome
  cases w.ending <;> rfl

section
variable {s : State} {r : Request}

theorem handleWriteTable_of_pending (pending : s.store.pendingSwap.isSome = true) :
    handleWriteTable s r = s.handled ⟨.pending, r.start, 0, []⟩ :=
  if_pos pending

theorem handleWriteTable_of_unknown (idle : s.store.pendingSwap = none) (unknown : TableId.ofWord r.selector = none) :
    handleWriteTable s r = s.handled ⟨.badTable, r.start, 0, []⟩ := by
  rw [handleWriteTable, handleList, idle, unknown]
  rfl

/-- R118, R119: with no swap pending, the list is written into the table the selector names, in the shadow. -/
theorem handleWriteTable_of_table {t : TableId} (idle : s.store.pendingSwap = none)
    (names : TableId.ofWord r.selector = some t) :
    let entries := splitEntries t.entryWords r.params
    let w := writeEntries t r.start s.store.shadowBank entries
    handleWriteTable s r =
      (s.setStore (s.store.setShadow w.bank)).handled
        ⟨w.outcome, nextIndex t r.start w.written, entries.length - w.written, []⟩ := by
  rw [handleWriteTable, handleList, idle, names]
  rfl

end

/-- Settles O28: the answer of each handling; the outcome of a written list is read off `ListWrite.outcome_eq`. -/
theorem writeTableAnswers : Obligations.WriteTableAnswers := by
  intro s r rest head writable
  refine ⟨fun pending => congrArg Host.Outcome.next ?pending,
    fun idle unknown => congrArg Host.Outcome.next ?unknown, fun t idle names => ?table⟩
  case pending =>
    exact State.serve_of_servedBroadcast head rfl writable (handleWriteTable_of_pending pending) rfl
  case unknown =>
    exact State.serve_of_servedBroadcast head rfl writable (handleWriteTable_of_unknown idle unknown) rfl
  case table =>
    intro entries w outcome next
    have named : w.outcome = outcome := w.outcome_eq
    rw [← named]
    exact congrArg Host.Outcome.next
      (State.serve_of_servedBroadcast head rfl writable (handleWriteTable_of_table idle names) rfl)

/-! ### READ_TABLE (R120) -/

/-- R120: how many of `count` entries from index `i` a table gives: all of them in SINE, which wraps, else those before its
end. -/
def TableId.readable (t : TableId) (count i : Nat) : Nat := if t = .sine then count else min count (t.entries - i)

/-- SINE has no end. -/
@[simp] theorem TableId.beyond_sine (i : Nat) : TableId.beyond .sine i = false := rfl

theorem TableId.beyond_iff {t : TableId} (straight : t ≠ .sine) (i : Nat) : t.beyond i = true ↔ t.entries ≤ i := by
  simp [TableId.beyond, straight]

theorem TableId.readable_of_beyond {t : TableId} {i : Nat} (past : t.beyond i = true) (count : Nat) :
    t.readable count i = 0 := by
  have straight : t ≠ .sine := fun sine => by simp [sine] at past
  have ended := (TableId.beyond_iff straight i).1 past
  rw [TableId.readable, if_neg straight]
  omega

theorem TableId.readable_succ {t : TableId} {i : Nat} (inside : ¬ t.beyond i = true) (count : Nat) :
    t.readable (count + 1) i = t.readable count (i + 1) + 1 := by
  unfold TableId.readable
  split_ifs with sine
  · rfl
  · rw [TableId.beyond_iff sine] at inside
    omega

/-- R120: the entries read are those at the places that follow the start index. -/
theorem readEntries_eq (b : Bank) (t : TableId) (count i : Nat) :
    readEntries b t count i = (List.range (t.readable count i)).map fun j => b.entry t (t.place (i + j)) := by
  induction count generalizing i with
  | zero => simp [readEntries, TableId.readable]
  | succ count ih =>
    by_cases past : t.beyond i = true
    · rw [readEntries, if_pos past, TableId.readable_of_beyond past]
      rfl
    · rw [readEntries, if_neg past, ih, TableId.readable_succ past, List.range_succ_eq_map]
      simp [Function.comp_def, Nat.add_assoc, Nat.add_comm 1]

@[simp] theorem readEntries_length (b : Bank) (t : TableId) (count i : Nat) :
    (readEntries b t count i).length = t.readable count i := by
  simp [readEntries_eq]

theorem readEntries_flatten (b : Bank) (t : TableId) (count i : Nat) :
    (readEntries b t count i).flatten =
      (List.range (t.readable count i)).flatMap fun j => b.entry t (t.place (i + j)) := by
  rw [readEntries_eq, List.flatMap_def]

section
variable {s : State} {r : Request} {t : TableId}

theorem handleReadTable_of_unknown (unknown : TableId.ofWord r.selector = none) :
    handleReadTable s r = s.handled ⟨.badTable, r.start, 0, []⟩ := by
  rw [handleReadTable, unknown]

theorem handleReadTable_of_illegal (names : TableId.ofWord r.selector = some t)
    (illegal : ¬ (r.param 0 ≤ 1 ∧ 1 ≤ r.param 1 ∧ r.param 1 ≤ 32)) :
    handleReadTable s r = s.handled ⟨.badValue, r.start, 0, []⟩ := by
  rw [handleReadTable, names]
  exact if_pos (by omega)

/-- R120: a legal read answers the entries the table gives, PARTIAL where they are fewer than asked for. -/
theorem handleReadTable_of_legal (names : TableId.ofWord r.selector = some t)
    (legal : r.param 0 ≤ 1 ∧ 1 ≤ r.param 1 ∧ r.param 1 ≤ 32) :
    let n := t.readable (r.param 1) r.start
    handleReadTable s r =
      s.handled
        ⟨if n < r.param 1 then .partialEnd else .ok, nextIndex t r.start n, r.param 1 - n,
          (List.range n).flatMap fun j =>
            (s.store.bank (if r.param 0 = 0 then 0 else 1)).entry t (t.place (r.start + j))⟩ := by
  have allowed : ¬ (1 < r.param 0 ∨ r.param 1 < 1 ∨ 32 < r.param 1) := by omega
  rw [handleReadTable, names]
  simp only [if_neg allowed, readEntries_length, readEntries_flatten]

/-- R156: a READ_TABLE request is handled and answered, or dropped where it is a broadcast. -/
theorem exec_readTable_of_handled {rest : List Request} {p : Reply} (head : AtHead s .readTable r rest)
    (handled : handleReadTable s r = s.handled p) :
    exec .readTable s = .next (if r.address = 63 then s.dropped rest else s.ended r rest p) :=
  congrArg Host.Outcome.next (State.serve_of_gate head (gate_readTable _) rfl handled rfl)

/-- R120: whatever it reads, READ_TABLE ends at once and changes nothing but its answer. -/
theorem handleReadTable_eq_handled (s : State) (r : Request) : ∃ p, handleReadTable s r = s.handled p := by
  cases names : TableId.ofWord r.selector with
  | none => exact ⟨_, handleReadTable_of_unknown names⟩
  | some t =>
    by_cases legal : r.param 0 ≤ 1 ∧ 1 ≤ r.param 1 ∧ r.param 1 ≤ 32
    · exact ⟨_, handleReadTable_of_legal names legal⟩
    · exact ⟨_, handleReadTable_of_illegal names legal⟩

end

/-- Settles O31: the answer of each handling, and none to a broadcast. -/
theorem readTableAnswers : Obligations.ReadTableAnswers := by
  intro s r rest head count legal
  refine ⟨fun all => ?broadcast, fun alone unknown => ?unknown,
    fun t alone names => ⟨fun illegal => ?illegal, fun allowed => ?legal⟩⟩
  case broadcast =>
    obtain ⟨p, handled⟩ := handleReadTable_eq_handled s r
    rw [exec_readTable_of_handled head handled, if_pos all]
  case unknown => rw [exec_readTable_of_handled head (handleReadTable_of_unknown unknown), if_neg alone]
  case illegal => rw [exec_readTable_of_handled head (handleReadTable_of_illegal names illegal), if_neg alone]
  case legal =>
    rw [exec_readTable_of_handled head (handleReadTable_of_legal names allowed), if_neg alone]
    rfl

end Sys2Proof.Machine

/-! Furnace supervision at a boundary: the arc states and the quiet timer, with what supervision offers (R136 to
R142). -/

namespace Sys2Proof.Machine

/-! ### The source of a feeder (R130, R136) -/

theorem mem_feederNumbers (n : Fin 6) : n ∈ feederNumbers := by
  revert n; decide

/-- R123: enabled FEEDER records of one feeder number conflict. -/
theorem SourceRecord.clash_of_feeder {q r : SourceRecord} (hq : q.enabled = true) (hr : r.enabled = true)
    (qRole : q.role = .feeder) (rRole : r.role = .feeder) (same : r.feeder = q.feeder) : q.Clash r :=
  ⟨hq, hr, by simp [SourceRecord.conflictsWith, qRole, rRole, same]⟩

/-- R130: at most one enabled FEEDER record is assigned to a feeder number. -/
theorem Bank.source_feeder_injective (b : Bank) {i j : Fin 8} (hi : (b.source i).enabled = true)
    (hj : (b.source j).enabled = true) (iRole : (b.source i).role = .feeder) (jRole : (b.source j).role = .feeder)
    (same : (b.source i).feeder = (b.source j).feeder) : i = j := by
  rcases lt_trichotomy i j with lt | eq | gt
  · exact absurd (SourceRecord.clash_of_feeder hi hj iRole jRole same.symm) (b.source_not_clash lt)
  · exact eq
  · exact absurd (SourceRecord.clash_of_feeder hj hi jRole iRole same) (b.source_not_clash gt)

theorem Bank.feederSource_eq_none_iff (b : Bank) (n : Fin 6) :
    b.feederSource n = none ↔
      ∀ k : Fin 8, (b.source k).enabled = true → (b.source k).role = .feeder → (b.source k).feeder ≠ n := by
  simp [Bank.feederSource, List.find?_eq_none, mem_sourceIndices]

theorem Bank.feederSource_eq_some_iff (b : Bank) (n : Fin 6) (k : Fin 8) :
    b.feederSource n = some k ↔
      (b.source k).enabled = true ∧ (b.source k).role = .feeder ∧ (b.source k).feeder = n := by
  have holds {j : Fin 8} (found : b.feederSource n = some j) :
      (b.source j).enabled = true ∧ (b.source j).role = .feeder ∧ (b.source j).feeder = n := by
    simpa [and_assoc] using List.find?_some found
  refine ⟨holds, fun ⟨enabled, role, feeder⟩ => ?_⟩
  cases found : b.feederSource n with
  | none => exact absurd feeder ((b.feederSource_eq_none_iff n).1 found k enabled role)
  | some j =>
    obtain ⟨enabled', role', feeder'⟩ := holds found
    rw [b.source_feeder_injective enabled' enabled role' role (feeder'.trans feeder.symm)]

/-- R136: the three conditions of a feeder's evaluation. -/
theorem evaluated_iff (b : Bank) (sources : Vector SourceStatus 8) (fig : ArcFigures) (n : Fin 6) :
    evaluated b sources fig n = true ↔
      (∃ k : Fin 8, (b.source k).enabled = true ∧ (b.source k).role = .feeder ∧ (b.source k).feeder = n
          ∧ sources[k].state = .active)
        ∧ (b.profile n).mode ≠ .off ∧ fig.full[n] = true := by
  have assigned (k : Fin 8) :
      ((b.source k).enabled = true ∧ (b.source k).role = .feeder ∧ (b.source k).feeder = n
        ∧ sources[k].state = .active) ↔ b.feederSource n = some k ∧ sources[k].state = .active := by
    rw [Bank.feederSource_eq_some_iff, and_assoc, and_assoc]
  simp only [assigned]
  unfold evaluated
  cases b.feederSource n <;> simp [and_assoc]

/-! ### One feeder at a boundary (R137, R138, R142) -/

theorem completesQualification_iff (before after : ArcState) :
    completesQualification before after = true ↔
      before = .pendingOn ∧ after = .burning ∨ before = .pendingOff ∧ after = .dark := by
  simp [completesQualification]

/-- R138: the ARC record of a feeder that goes from one arc state to another. -/
def State.arcReport (s : State) (n : Fin 6) (before after : ArcState) : List Offer :=
  if completesQualification before after && (s.bank.profile n).reportArcs then
    [.record ⟨.arc n after, s.tracker.cycle, s.ring.lastReleased⟩]
  else []

/-- A feeder that keeps its state completes no qualification. -/
theorem State.arcReport_self (s : State) (n : Fin 6) (a : ArcState) : s.arcReport n a a = [] := by
  cases a <;> rfl

theorem State.arcReport_eq_arcRecord (s : State) (v : Supervision) (n : Fin 6) :
    s.arcReport n s.supervision.arcs[n] v.arcs[n] = s.arcRecord v n := by
  simp only [State.arcReport, State.arcRecord, Bool.and_eq_true, completesQualification_iff]

theorem State.isRecord_of_mem_arcReport {s : State} {n : Fin 6} {before after : ArcState} {o : Offer}
    (mem : o ∈ s.arcReport n before after) : o.isRecord = true := by
  unfold State.arcReport at mem
  split at mem
  · rw [List.mem_singleton.1 mem]; rfl
  · cases mem

section
variable (s : State) (fig : ArcFigures) (v : Supervision)

/-- R136, R137: the arc state a boundary leaves a feeder in. -/
def State.nextArc (n : Fin 6) : ArcState :=
  if evaluated s.bank s.intake.sources fig n then (v.arcs[n]).next (s.bank.profile n) (fig.magnitude[n] : Int)
  else v.arcs[n]

/-- R142: whether the boundary takes a wake-enabled feeder from DARK to PENDING_ON. -/
def State.wakesAt (n : Fin 6) : Bool :=
  (s.bank.profile n).wakeEnable && decide (v.arcs[n] = .dark ∧ s.nextArc fig v n = .pendingOn)

/-- Supervision when the feeders in a list have been through the boundary: each has its next state, and the first that
wakes has ended QUIET. -/
def State.passedBy (ns : List (Fin 6)) : Supervision :=
  { v with
    arcs := Vector.ofFn fun m => if m ∈ ns then s.nextArc fig v m else v.arcs[m]
    quiet := v.quiet && ns.all fun m => !s.wakesAt fig v m
    quietTimer := if v.quiet = true ∧ ∃ m ∈ ns, s.wakesAt fig v m = true then 0 else v.quietTimer }

/-- What supervision offers for a feeder among those in a list: its ARC record, then QUIET's change where it is the first
to wake. -/
def State.passOffers (ns : List (Fin 6)) (n : Fin 6) : List Offer :=
  s.arcReport n v.arcs[n] (s.nextArc fig v n)
    ++ if v.quiet = true ∧ s.wakesAt fig v n = true ∧ ∀ j ∈ ns, j < n → s.wakesAt fig v j = false then
        [.change .quiet false s.tracker.cycle s.ring.lastReleased]
      else []

theorem State.passedBy_arcs (ns : List (Fin 6)) (m : Fin 6) :
    (s.passedBy fig v ns).arcs[m] = if m ∈ ns then s.nextArc fig v m else v.arcs[m] := by
  simp [State.passedBy]

@[simp] theorem State.passedBy_quiet (ns : List (Fin 6)) :
    (s.passedBy fig v ns).quiet = (v.quiet && ns.all fun m => !s.wakesAt fig v m) := rfl

@[simp] theorem State.passedBy_quietTimer (ns : List (Fin 6)) :
    (s.passedBy fig v ns).quietTimer =
      if v.quiet = true ∧ ∃ m ∈ ns, s.wakesAt fig v m = true then 0 else v.quietTimer := rfl

@[simp] theorem State.passedBy_nil : s.passedBy fig v [] = v := by
  simp [State.passedBy]

end

section
variable {s : State} {fig : ArcFigures} {v : Supervision} {ns : List (Fin 6)} {n : Fin 6}

theorem State.nextArc_of_evaluated (ev : evaluated s.bank s.intake.sources fig n = true) :
    s.nextArc fig v n = (v.arcs[n]).next (s.bank.profile n) (fig.magnitude[n] : Int) := if_pos ev

theorem State.nextArc_of_not_evaluated (ev : ¬ evaluated s.bank s.intake.sources fig n = true) :
    s.nextArc fig v n = v.arcs[n] := if_neg ev

theorem State.wakesAt_eq_true_iff :
    s.wakesAt fig v n = true ↔
      (s.bank.profile n).wakeEnable = true ∧ v.arcs[n] = .dark ∧ s.nextArc fig v n = .pendingOn := by
  simp [State.wakesAt]

/-- R136: a feeder that is not evaluated wakes nothing. -/
theorem State.wakesAt_of_not_evaluated (ev : ¬ evaluated s.bank s.intake.sources fig n = true) :
    s.wakesAt fig v n = false := by
  rw [Bool.eq_false_iff, Ne, State.wakesAt_eq_true_iff, State.nextArc_of_not_evaluated ev]
  rintro ⟨-, dark, pending⟩
  rw [dark] at pending
  cases pending

/-- What a boundary does to a feeder does not depend on the feeders before it. -/
theorem State.nextArc_passedBy (new : n ∉ ns) : s.nextArc fig (s.passedBy fig v ns) n = s.nextArc fig v n := by
  simp only [State.nextArc, State.passedBy_arcs, if_neg new]

theorem State.wakesAt_passedBy (new : n ∉ ns) : s.wakesAt fig (s.passedBy fig v ns) n = s.wakesAt fig v n := by
  simp only [State.wakesAt, State.nextArc_passedBy new, State.passedBy_arcs, if_neg new]

end

/-! ### The feeders in order (R135) -/

theorem Supervision.eq_of_fields {v w : Supervision} (arcs : ∀ n : Fin 6, v.arcs[n] = w.arcs[n])
    (quiet : v.quiet = w.quiet) (timer : v.quietTimer = w.quietTimer) (runs : v.termRuns = w.termRuns)
    (trip : v.trip = w.trip) : v = w := by
  have sameArcs : v.arcs = w.arcs := Vector.ext fun i below => arcs ⟨i, below⟩
  cases v
  cases w
  exact Supervision.mk.injEq .. ▸ ⟨sameArcs, timer, quiet, runs, trip⟩

section
variable (s : State) (fig : ArcFigures) (v : Supervision)

theorem State.passedBy_single_arcs (n : Fin 6) :
    (s.passedBy fig v [n]).arcs = v.arcs.set n.val (s.nextArc fig v n) := by
  refine Vector.ext fun i below => ?_
  have at_i := s.passedBy_arcs fig v [n] ⟨i, below⟩
  rw [Fin.getElem_fin] at at_i
  rw [at_i, Vector.getElem_set]
  by_cases same : n.val = i
  · subst same; simp
  · have other : (⟨i, below⟩ : Fin 6) ≠ n := fun eq => same (by rw [← eq])
    simp [same, other]

variable {s fig v} {ns : List (Fin 6)} {n : Fin 6}

/-- R137, R138, R142: the step of an evaluated feeder. -/
theorem arcStep_of_evaluated (ev : evaluated s.bank s.intake.sources fig n = true) :
    arcStep s.bank s.intake.sources fig s.tracker.cycle s.ring.lastReleased v n =
      (s.passedBy fig v [n], s.passOffers fig v [n] n) := by
  have condition :
      (v.arcs[n] = .dark ∧ (v.arcs[n]).next (s.bank.profile n) (fig.magnitude[n] : Int) = .pendingOn
          ∧ (s.bank.profile n).wakeEnable = true ∧ v.quiet = true) ↔
        v.quiet = true ∧ s.wakesAt fig v n = true := by
    rw [State.wakesAt_eq_true_iff, State.nextArc_of_evaluated ev]
    tauto
  simp only [arcStep, if_pos ev, condition]
  rw [← State.nextArc_of_evaluated ev, ← State.passedBy_single_arcs]
  by_cases wakes : v.quiet = true ∧ s.wakesAt fig v n = true
  · simp [wakes, State.passedBy, State.passOffers, State.arcReport, Supervision.wake]
  · have stays : (v.quiet && !s.wakesAt fig v n) = v.quiet := by
      cases quiet : v.quiet with
      | false => rfl
      | true => simpa [quiet] using wakes
    rw [if_neg wakes]
    simp [wakes, stays, State.passedBy, State.passOffers, State.arcReport]

/-- R136: a feeder that is not evaluated changes nothing. -/
theorem State.passedBy_single_of_not_evaluated (ev : ¬ evaluated s.bank s.intake.sources fig n = true) :
    s.passedBy fig v [n] = v := by
  have idle : s.wakesAt fig v n = false := State.wakesAt_of_not_evaluated ev
  refine Supervision.eq_of_fields (fun m => ?arcs) (by simp [idle]) (by simp [idle]) rfl rfl
  rw [State.passedBy_arcs]
  split
  · next single => rw [List.mem_singleton.1 single, State.nextArc_of_not_evaluated ev]
  · rfl

/-- R136: nothing is offered for a feeder that is not evaluated. -/
theorem State.passOffers_of_not_evaluated (ev : ¬ evaluated s.bank s.intake.sources fig n = true) :
    s.passOffers fig v ns n = [] := by
  simp [State.passOffers, State.wakesAt_of_not_evaluated ev, State.nextArc_of_not_evaluated ev, State.arcReport_self]

/-- R136 to R138, R142: the step of any feeder. -/
theorem arcStep_eq (s : State) (fig : ArcFigures) (v : Supervision) (n : Fin 6) :
    arcStep s.bank s.intake.sources fig s.tracker.cycle s.ring.lastReleased v n =
      (s.passedBy fig v [n], s.passOffers fig v [n] n) := by
  by_cases ev : evaluated s.bank s.intake.sources fig n = true
  · exact arcStep_of_evaluated ev
  · rw [arcStep, if_neg ev, State.passedBy_single_of_not_evaluated ev, State.passOffers_of_not_evaluated ev]

/-- A further feeder goes through the boundary as it would alone. -/
theorem State.passedBy_concat (new : n ∉ ns) :
    s.passedBy fig (s.passedBy fig v ns) [n] = s.passedBy fig v (ns ++ [n]) := by
  refine Supervision.eq_of_fields (fun m => ?arcs) ?quiet ?timer rfl rfl
  case arcs =>
    simp only [State.passedBy_arcs, List.mem_append, List.mem_singleton]
    by_cases last : m = n
    · subst last; simp [State.nextArc_passedBy new]
    · simp [last]
  case quiet => simp [State.wakesAt_passedBy new, Bool.and_assoc]
  case timer =>
    simp only [State.passedBy_quietTimer, State.passedBy_quiet, List.mem_append, List.mem_singleton,
      exists_eq_left, or_and_right, exists_or, State.wakesAt_passedBy new]
    by_cases earlier : ∃ m ∈ ns, s.wakesAt fig v m = true
    · by_cases quiet : v.quiet = true <;> simp [quiet, earlier]
    · have asleep : (ns.all fun m => !s.wakesAt fig v m) = true := by simpa using earlier
      simp [earlier, asleep]

/-- QUIET is still on at a feeder's step where no feeder before it has woken. -/
theorem State.passOffers_concat (ordered : ∀ j ∈ ns, j < n) :
    s.passOffers fig (s.passedBy fig v ns) [n] n = s.passOffers fig v (ns ++ [n]) n := by
  have new : n ∉ ns := fun mem => lt_irrefl n (ordered n mem)
  have first :
      (∀ j ∈ ns ++ [n], j < n → s.wakesAt fig v j = false) ↔ ∀ j ∈ ns, s.wakesAt fig v j = false := by
    simp only [List.mem_append, List.mem_singleton]
    exact ⟨fun h j mem => h j (.inl mem) (ordered j mem),
      fun h j mem below => h j (mem.resolve_right below.ne)⟩
  simp only [State.passOffers, State.nextArc_passedBy new, State.wakesAt_passedBy new, State.passedBy_arcs, if_neg new,
    first]
  simp [and_comm, and_left_comm]

/-- What is offered for a feeder does not depend on the feeders after it. -/
theorem State.passOffers_append_of_lt {m : Fin 6} (below : m < n) :
    s.passOffers fig v (ns ++ [n]) m = s.passOffers fig v ns m := by
  have later : ¬ n < m := below.not_gt
  simp [State.passOffers, or_imp, forall_and, later]

/-- R135: feeders in ascending order go through the boundary one after another. -/
theorem foldl_arcStep (s : State) (fig : ArcFigures) (v : Supervision) (ascending : ns.Pairwise (· < ·)) :
    ns.foldl
        (fun acc n =>
          let r := arcStep s.bank s.intake.sources fig s.tracker.cycle s.ring.lastReleased acc.1 n
          (r.1, acc.2 ++ r.2))
        (v, []) =
      (s.passedBy fig v ns, ns.flatMap (s.passOffers fig v ns)) := by
  induction ns using List.reverseRecOn with
  | nil => simp
  | append_singleton ns n ih =>
    obtain ⟨front, -, ordered⟩ := List.pairwise_append.1 ascending
    have ordered' : ∀ j ∈ ns, j < n := fun j mem => ordered j mem n (List.mem_singleton_self n)
    have earlier : ns.flatMap (s.passOffers fig v (ns ++ [n])) = ns.flatMap (s.passOffers fig v ns) :=
      List.flatMap_congr fun m mem => State.passOffers_append_of_lt (ordered' m mem)
    rw [List.foldl_concat, ih front, arcStep_eq,
      State.passedBy_concat fun mem => lt_irrefl n (ordered' n mem), State.passOffers_concat ordered',
      List.flatMap_append, earlier, List.flatMap_singleton]

/-- R135, step 2: all six feeders. -/
theorem arcSteps_eq (s : State) (fig : ArcFigures) :
    arcSteps s.bank s.intake.sources fig s.tracker.cycle s.ring.lastReleased s.supervision =
      (s.passedBy fig s.supervision feederNumbers,
        feederNumbers.flatMap (s.passOffers fig s.supervision feederNumbers)) :=
  foldl_arcStep s fig s.supervision (by decide)

end

/-! ### The quiet step (R140, R141) -/

theorem wakeFeedersDark_iff (b : Bank) (arcs : Vector ArcState 6) :
    wakeFeedersDark b arcs = true ↔ ∀ n : Fin 6, (b.profile n).wakeEnable = true → arcs[n] = .dark := by
  simp [wakeFeedersDark, mem_feederNumbers, or_iff_not_imp_left]

theorem quietCanRun_iff (b : Bank) :
    quietCanRun b = true ↔ b.count .quietCycles ≠ 0 ∧ ∃ n : Fin 6, (b.profile n).wakeEnable = true := by
  simp [quietCanRun, mem_feederNumbers]

theorem quietOffers_eq_changed (before after : Supervision) (cycle : Nat) (set : Option Nat) :
    quietOffers before after cycle set = changed .quiet before.quiet after.quiet cycle set := by
  by_cases same : before.quiet = after.quiet <;> simp [quietOffers, changed, same]

section
variable {b : Bank} {v : Supervision}

/-- The quiet step moves QUIET and its timer alone. -/
theorem quietStep_frame (b : Bank) (v : Supervision) :
    quietStep b v = { v with quiet := (quietStep b v).quiet, quietTimer := (quietStep b v).quietTimer } := by
  unfold quietStep Supervision.wake
  split_ifs <;> rfl

@[simp] theorem quietStep_arcs : (quietStep b v).arcs = v.arcs := by rw [quietStep_frame]
@[simp] theorem quietStep_termRuns : (quietStep b v).termRuns = v.termRuns := by rw [quietStep_frame]
@[simp] theorem quietStep_trip : (quietStep b v).trip = v.trip := by rw [quietStep_frame]

theorem quietStep_of_quiet (quiet : v.quiet = true) (dark : wakeFeedersDark b v.arcs = true) : quietStep b v = v := by
  rw [quietStep, if_pos quiet, if_pos dark]

/-- R140: where a wake-enabled feeder is not DARK, QUIET is off and the timer 0, whatever they were. -/
theorem quietStep_of_not_dark (lit : ¬ wakeFeedersDark b v.arcs = true) :
    (quietStep b v).quiet = false ∧ (quietStep b v).quietTimer = 0 := by
  cases quiet : v.quiet <;> simp [quietStep, quiet, lit, Supervision.wake]

theorem quietStep_of_running (off : v.quiet = false) (canRun : quietCanRun b = true)
    (dark : wakeFeedersDark b v.arcs = true) :
    (quietStep b v).quietTimer = countUp 1 v.quietTimer
      ∧ ((quietStep b v).quiet = true ↔ b.count .quietCycles ≤ countUp 1 v.quietTimer) := by
  simp [quietStep, off, canRun, dark]

theorem quietStep_of_stopped (off : v.quiet = false) (stopped : ¬ quietCanRun b = true) :
    (quietStep b v).quiet = false ∧ (quietStep b v).quietTimer = 0 := by
  simp [quietStep, off, stopped]

end

/-! ### Both steps at a boundary (R135 to R142) -/

section
variable (s : State) (fig : ArcFigures)

theorem State.arcsAndQuiet_fst :
    (s.arcsAndQuiet fig).1 = quietStep s.bank (s.passedBy fig s.supervision feederNumbers) := by
  simp only [State.arcsAndQuiet, arcSteps_eq]

/-- R137: each feeder's arc state after a boundary. -/
theorem State.arcsAndQuiet_arcs (n : Fin 6) :
    (s.arcsAndQuiet fig).1.arcs[n] = s.nextArc fig s.supervision n := by
  rw [State.arcsAndQuiet_fst, quietStep_arcs, State.passedBy_arcs, if_pos (mem_feederNumbers n)]

theorem State.arcsAndQuiet_snd :
    (s.arcsAndQuiet fig).2 =
      feederNumbers.flatMap (s.passOffers fig s.supervision feederNumbers)
        ++ changed .quiet (s.passedBy fig s.supervision feederNumbers).quiet (s.arcsAndQuiet fig).1.quiet
            s.tracker.cycle s.ring.lastReleased := by
  rw [State.arcsAndQuiet_fst, ← quietOffers_eq_changed]
  simp only [State.arcsAndQuiet, arcSteps_eq]

/-- R138: the report of a feeder's transition, read off the states before and after both steps. -/
theorem State.arcReport_nextArc (n : Fin 6) :
    s.arcReport n s.supervision.arcs[n] (s.nextArc fig s.supervision n) = s.arcRecord (s.arcsAndQuiet fig).1 n := by
  rw [← State.arcsAndQuiet_arcs, State.arcReport_eq_arcRecord]

/-- R138: the records of a feeder's offers are its ARC record. -/
theorem State.filter_isRecord_passOffers (v : Supervision) (ns : List (Fin 6)) (n : Fin 6) :
    (s.passOffers fig v ns n).filter Offer.isRecord = s.arcReport n v.arcs[n] (s.nextArc fig v n) := by
  have report : (s.arcReport n v.arcs[n] (s.nextArc fig v n)).filter Offer.isRecord
      = s.arcReport n v.arcs[n] (s.nextArc fig v n) :=
    List.filter_eq_self.2 fun _ => State.isRecord_of_mem_arcReport
  rw [State.passOffers, List.filter_append, report]
  split <;> simp [Offer.isRecord]

theorem filter_isRecord_changed (c : Condition) (was is : Bool) (cycle : Nat) (set : Option Nat) :
    (changed c was is cycle set).filter Offer.isRecord = [] := by
  unfold changed
  split <;> rfl

/-- R138, R142: what is offered for a feeder at a boundary, by its ARC record and the feeders of lower number. -/
theorem State.passOffers_feederNumbers (n : Fin 6) :
    s.passOffers fig s.supervision feederNumbers n =
      s.arcRecord (s.arcsAndQuiet fig).1 n
        ++ if s.supervision.quiet = true ∧ s.wakesAt fig s.supervision n = true
              ∧ ∀ j, j < n → s.wakesAt fig s.supervision j = false then
            [.change .quiet false s.tracker.cycle s.ring.lastReleased]
          else [] := by
  simp only [State.passOffers, State.arcReport_nextArc, mem_feederNumbers, forall_const]

/-- R142: no feeder wakes at a boundary that leaves each wake-enabled feeder DARK. -/
theorem State.wakesAt_of_dark {n : Fin 6}
    (dark : (s.bank.profile n).wakeEnable = true → s.nextArc fig s.supervision n = .dark) :
    s.wakesAt fig s.supervision n = false := by
  rw [Bool.eq_false_iff, Ne, State.wakesAt_eq_true_iff]
  rintro ⟨enabled, -, pending⟩
  rw [dark enabled] at pending
  cases pending

end

/-- Settles O39: each transition is a case of `ArcState.next`; the offers that are records are the feeders' reports. -/
theorem arcStatesAtABoundary : Obligations.ArcStatesAtABoundary := by
  intro s fig n before after p high low ev
  have ev_iff : evaluated s.bank s.intake.sources fig n = true ↔ ev := evaluated_iff _ _ _ _
  have after_eq : after = s.nextArc fig s.supervision n := s.arcsAndQuiet_arcs fig n
  have moves (h : ev) : after = before.next p (fig.magnitude[n] : Int) :=
    after_eq.trans (State.nextArc_of_evaluated (ev_iff.2 h))
  refine ⟨fun h => after_eq.trans (State.nextArc_of_not_evaluated fun e => h (ev_iff.1 e)),
    fun h state => ?dark, fun h state => ?pendingOn, fun h state => ?burning, fun h state => ?pendingOff, ?records⟩
  case records =>
    rw [State.arcsAndQuiet_snd, List.filter_append, filter_isRecord_changed, List.append_nil, List.filter_flatMap]
    refine List.flatMap_congr fun m _ => ?_
    rw [State.filter_isRecord_passOffers, State.arcReport_nextArc]
  all_goals
    rw [moves h, state]
    rfl

/-- Settles O40: QUIET before the quiet step is QUIET before the boundary unless a feeder woke; the quiet step does the
rest, by whether every wake-enabled feeder is DARK. -/
theorem quietAtABoundary : Obligations.QuietAtABoundary := by
  intro s fig v dark canRun timer wakes
  let w := s.passedBy fig s.supervision feederNumbers
  have v_eq : v = quietStep s.bank w := s.arcsAndQuiet_fst fig
  have arcs (n : Fin 6) : v.arcs[n] = s.nextArc fig s.supervision n := s.arcsAndQuiet_arcs fig n
  have dark_iff : wakeFeedersDark s.bank w.arcs = true ↔ dark := by
    rw [wakeFeedersDark_iff, show w.arcs = v.arcs by rw [v_eq, quietStep_arcs]]
  have canRun_iff : quietCanRun s.bank = true ↔ canRun := quietCanRun_iff s.bank
  have wakes_eq : s.wakesAt fig s.supervision = wakes := by
    funext n
    simp only [wakes, arcs, State.wakesAt]
  have off (quiet : s.supervision.quiet = false) : w.quiet = false ∧ w.quietTimer = s.supervision.quietTimer := by
    simp [w, quiet]
  refine ⟨fun quiet allDark => ?stays, fun quiet lit => ?ends, fun quiet runs allDark => ?runs,
    fun quiet stopped => ?stopped, ?termRuns, ?trip, ?offers⟩
  case stays =>
    have asleep (n : Fin 6) : s.wakesAt fig s.supervision n = false :=
      s.wakesAt_of_dark fig fun enabled => (arcs n).symm.trans (allDark n enabled)
    have w_quiet : w.quiet = true := by simp [w, quiet, asleep]
    have w_timer : w.quietTimer = s.supervision.quietTimer := by simp [w, asleep]
    rw [v_eq, quietStep_of_quiet w_quiet (dark_iff.2 allDark)]
    exact ⟨w_quiet, w_timer⟩
  case ends =>
    rw [v_eq]
    exact quietStep_of_not_dark fun all => lit (dark_iff.1 all)
  case runs =>
    obtain ⟨w_off, w_timer⟩ := off quiet
    have step := quietStep_of_running w_off (canRun_iff.2 runs) (dark_iff.2 allDark)
    rwa [w_timer, ← v_eq] at step
  case stopped =>
    rw [v_eq]
    by_cases all : wakeFeedersDark s.bank w.arcs = true
    · exact quietStep_of_stopped (off quiet).1 fun can => stopped ⟨canRun_iff.1 can, dark_iff.1 all⟩
    · exact quietStep_of_not_dark all
  case termRuns => rw [v_eq, quietStep_termRuns]; rfl
  case trip => rw [v_eq, quietStep_trip]; rfl
  case offers =>
    rw [← wakes_eq, State.arcsAndQuiet_snd, State.passedBy_quiet,
      List.flatMap_congr fun n _ => s.passOffers_feederNumbers fig n]

end Sys2Proof.Machine

/-! The supervision requests WAKE and CLEAR_TRIP (R143, R148). -/

namespace Sys2Proof.Machine

/-- R159: WAKE is let through in every protection state. -/
theorem gate_wake (p : Protection) : gate p .wake = none := by
  cases p <;> rfl

/-- R159: CLEAR_TRIP is let through in every protection state. -/
theorem gate_clearTrip (p : Protection) : gate p .clearTrip = none := by
  cases p <;> rfl

section
variable (s : State) (r : Request)

/-- R143: the handling of WAKE, its change of QUIET noted. -/
theorem handleWake_eq :
    handleWake s r =
      ((s.setSupervision { s.supervision with quiet := false, quietTimer := 0 }).noteChange .quiet s.supervision.quiet
        false).handled ⟨.ok, 0, 0, []⟩ := by
  rw [handleWake, State.offerChanges_single]
  rfl

theorem handleClearTrip_eq :
    handleClearTrip s r =
      (s.setSupervision { s.supervision with trip := false, termRuns := Vector.replicate 4 0 }).handled
        ⟨.ok, 0, 0, []⟩ := rfl

end

/-- Settles O43: both requests are let through in every protection state, then handled and answered. -/
theorem wakeAndClearTrip : Obligations.WakeAndClearTrip := by
  intro s r rest
  refine ⟨fun head => congrArg Host.Outcome.next ?wake, fun head => congrArg Host.Outcome.next ?clearTrip⟩
  case wake =>
    exact State.serve_of_gate head (gate_wake _) rfl (handleWake_eq s r) (by rw [State.noteChange_engine])
  case clearTrip => exact State.serve_of_gate head (gate_clearTrip _) rfl (handleClearTrip_eq s r) rfl

end Sys2Proof.Machine

/-! The gate, the access code requests and the requests that only read (R156 to R167, R187). -/

namespace Sys2Proof.Machine

/-! ### What the gate refuses in each protection state (R159) -/

section
variable {c : RequestCode}

theorem gate_opened_iff : gate .opened c = some .noCode ↔ c ∈ [RequestCode.clearCode, .unlock, .lock] := by
  cases c <;> decide

theorem gate_unlocked (c : RequestCode) : gate .unlocked c = none := by
  cases c <;> rfl

theorem gate_locked_iff :
    gate .locked c = some .refusedByState ↔
      c ∈ [RequestCode.writeTable, .clone, .commitSwap, .cancelSwap, .inject, .setThreshold, .setAttentionMode,
        .resetController, .setCode, .clearCode] := by
  cases c <;> decide

/-- R159: FROZEN refuses what LOCKED does, and UNLOCK and LOCK besides. -/
theorem gate_frozen_iff :
    gate .frozen c = some .refusedByState ↔
      c ∈ [RequestCode.writeTable, .clone, .commitSwap, .cancelSwap, .inject, .setThreshold, .setAttentionMode,
        .resetController, .setCode, .clearCode, .unlock, .lock] := by
  cases c <;> decide

/-- R159: SET_CODE is let through in OPEN and UNLOCKED. -/
theorem gate_setCode {p : Protection} (writable : p = .opened ∨ p = .unlocked) : gate p .setCode = none := by
  rcases writable with rfl | rfl <;> rfl

/-- R159: LOCK is let through in UNLOCKED and LOCKED. -/
theorem gate_lock {p : Protection} (coded : p = .unlocked ∨ p = .locked) : gate p .lock = none := by
  rcases coded with rfl | rfl <;> rfl

/-- R159: UNLOCK is let through in UNLOCKED and LOCKED. -/
theorem gate_unlock {p : Protection} (coded : p = .unlocked ∨ p = .locked) : gate p .unlock = none := by
  rcases coded with rfl | rfl <;> rfl

/-- R159: FREEZE is let through in every protection state. -/
theorem gate_freeze (p : Protection) : gate p .freeze = none := by
  cases p <;> rfl

/-- R159: ECHO, READ_STATUS and READ_HEALTH are let through in every protection state. -/
theorem gate_of_read (p : Protection) (read : c ∈ [RequestCode.echo, .readStatus, .readHealth]) : gate p c = none := by
  revert read
  cases c <;> cases p <;> decide

/-- R156: the requests carried out for a broadcast are the table requests that write. -/
theorem RequestCode.servedBroadcast_iff :
    c.servedBroadcast = true ↔ c ∈ [RequestCode.writeTable, .clone, .commitSwap, .cancelSwap] := by
  cases c <;> decide

end

/-! ### The service of a request that is not handled (R156, R158, R159) -/

/-- Each service command serves the requests of its own code. -/
theorem exec_command (c : RequestCode) (s : State) : exec c.command s = .next (s.serve c (handlerOf c)) := by
  cases c <;> rfl

section
variable {s : State} {c : RequestCode} {r : Request} {rest : List Request}

/-- R156: a broadcast whose code is not served as one is dropped, whatever the gate says. -/
theorem State.serve_of_broadcast (handle : State → Request → Handled) (head : AtHead s c r rest)
    (all : r.address = 63) (alone : c.servedBroadcast = false) : s.serve c handle = s.dropped rest := by
  rw [State.serve_of_atHead handle head, State.serveRequest, alone, (Request.broadcast_iff r).2 all]
  exact State.removeHead_eq_dropped head.queue

/-- R159: a request the gate refuses is answered so, unless it is a broadcast dropped before it. -/
theorem State.serve_of_refused {o : ReplyOutcome} (handle : State → Request → Handled) (head : AtHead s c r rest)
    (heard : r.address ≠ 63 ∨ c.servedBroadcast = true) (refused : gate s.engine.protection c = some o) :
    s.serve c handle = s.ended r rest (refusedReply c r o) := by
  rw [State.serve_of_atHead handle head]
  obtain ⟨all, alone, -⟩ | ⟨o', refused', answered⟩ | ⟨through, -⟩ := State.serveRequest_cases s c handle r
  · simp [all, alone] at heard
  · obtain rfl : o = o' := Option.some.inj (refused.symm.trans refused')
    rw [answered, State.answer_eq_ended _ head.queue]
  · cases refused.symm.trans through

/-- R157: an ended broadcast leaves what a dropped one does, since no response is sent for it. -/
theorem State.ended_of_broadcast (all : r.address = 63) (p : Reply) : s.ended r rest p = s.dropped rest := by
  rw [State.ended, if_pos all]
  rfl

/-- R158: a request with an unknown code is answered, in every protection state. -/
theorem State.serveUnknown_of_head (running : s.phase = .running) (free : s.engine.operation = none)
    (queue : s.engine.queue = r :: rest) (unknown : RequestCode.ofWord r.code = none) :
    s.serveUnknown = s.ended r rest ⟨.unknownRequest, 0, 0, []⟩ := by
  have answered : s.serveUnknown = s.answer r ⟨.unknownRequest, 0, 0, []⟩ := by
    simp [State.serveUnknown, State.whenRunning, running, free, queue, unknown, Reply.plain]
  rw [answered, State.answer_eq_ended _ queue]

end

/-- Settles O46: a code request in OPEN, and what LOCKED and FROZEN refuse, read off the gate; a broadcast that is no
table request is dropped before the gate. -/
theorem gateRefusesByProtectionState : Obligations.GateRefusesByProtectionState := by
  intro s r rest
  refine ⟨fun c head => ?known, fun running free queue unknown => congrArg Host.Outcome.next ?unknown⟩
  case known =>
    intro table next
    have refusal {o : ReplyOutcome} (heard : r.address ≠ 63 ∨ table) (refused : gate s.engine.protection c = some o) :
        exec c.command s = .next (s.ended r rest ⟨o, next, 0, []⟩) :=
      (exec_command c s).trans <| congrArg Host.Outcome.next <|
        State.serve_of_refused _ head (heard.imp_right RequestCode.servedBroadcast_iff.2) refused
    refine ⟨fun all other => ?dropped, fun heard opened codeRequest => ?opened, fun heard locked writes => ?locked,
      fun heard frozen writes => ?frozen⟩
    case dropped =>
      have alone : c.servedBroadcast = false :=
        Bool.eq_false_iff.2 fun served => other (RequestCode.servedBroadcast_iff.1 served)
      rw [exec_command, State.serve_of_broadcast _ head all alone]
    case opened => exact refusal heard (by rw [opened, gate_opened_iff.2 codeRequest])
    case locked => exact refusal heard (by rw [locked, gate_locked_iff.2 writes])
    case frozen => exact refusal heard (by rw [frozen, gate_frozen_iff.2 writes])
  case unknown =>
    rw [State.serveUnknown_of_head running free queue unknown]
    split_ifs with all
    · exact State.ended_of_broadcast all _
    · rfl

/-! ### The access code and one record (R160, R162, R174) -/

/-- R160, R162: the code carried has the first parameter word in bits 31 to 16, the second in bits 15 to 0. -/
theorem Request.accessCode_of_params {r : Request} {hi lo : Word} (params : r.params = [hi, lo]) :
    r.accessCode = BitVec.append hi lo := by
  have code : r.accessCode = BitVec.ofNat 32 (hi.toNat * 65536 + lo.toNat) := by
    simp [Request.accessCode, Request.param, params]
  have shifted : (hi ++ lo).toNat = hi.toNat * 65536 + lo.toNat := by
    rw [BitVec.toNat_append, ← Nat.shiftLeft_add_eq_or_of_lt lo.isLt, Nat.shiftLeft_eq]
  rw [code, ← shifted]
  exact BitVec.ofNat_toNat _ (hi ++ lo)

theorem Engine.expiry_iff (e : Engine) : e.expiry = true ↔ e.attempts = 5 := beq_iff_eq

/-- R174: one record offered alone enters with the stamps of its moment. -/
theorem State.record_eq_recorded (s : State) (body : EventBody) : s.record body = s.recorded body := by
  rw [State.record, State.offer_eq]
  rfl

/-! ### UNLOCK (R162, R163) -/

section
variable {s : State} {r : Request}

theorem handleUnlock_of_unlocked (unlocked : s.engine.protection = .unlocked) :
    handleUnlock s r = s.handled ⟨.ok, 0, 0, []⟩ :=
  if_pos unlocked

section
variable (locked : s.engine.protection = .locked)
include locked

/-- R163: after the fifth mismatch no code is checked. -/
theorem handleUnlock_of_expired (expired : s.engine.attempts = 5) :
    handleUnlock s r = s.handled ⟨.expired, 0, 0, []⟩ := by
  rw [handleUnlock, if_neg (by simp [locked]), if_pos ((Engine.expiry_iff _).2 expired)]
  rfl

theorem handleUnlock_of_match (tries : s.engine.attempts ≠ 5) (right : s.engine.code = some r.accessCode) :
    handleUnlock s r =
      (s.setEngine { s.engine with protection := .unlocked, attempts := 0 }).handled ⟨.ok, 0, 0, []⟩ := by
  rw [handleUnlock, if_neg (by simp [locked]), if_neg (mt (Engine.expiry_iff _).1 tries), if_pos right]
  rfl

/-- R162, R163: a mismatch is counted, and the fifth recorded. -/
theorem handleUnlock_of_mismatch (tries : s.engine.attempts ≠ 5) (wrong : s.engine.code ≠ some r.accessCode) :
    let missed := s.setEngine { s.engine with attempts := s.engine.attempts + 1 }
    handleUnlock s r =
      (if s.engine.attempts + 1 = 5 then missed.recorded (.access 5) else missed).handled
        ⟨.codeMismatch, 0, 0, []⟩ := by
  intro missed
  have fifth : missed.engine.expiry = true ↔ s.engine.attempts + 1 = 5 := Engine.expiry_iff _
  rw [handleUnlock, if_neg (by simp [locked]), if_neg (mt (Engine.expiry_iff _).1 tries), if_neg wrong,
    ← State.record_eq_recorded]
  simp only [← fifth]
  rfl

end
end

/-- Settles O48: OPEN refuses at the gate; UNLOCKED and the three outcomes in LOCKED are the cases of the handling. -/
theorem unlockChecksTheCode : Obligations.UnlockChecksTheCode := by
  intro s r rest hi lo head alone params code missed
  have carried : r.accessCode = code := Request.accessCode_of_params params
  have served {t : State} {p : Reply} (coded : s.engine.protection = .unlocked ∨ s.engine.protection = .locked)
      (handled : handleUnlock s r = t.handled p) (queue : t.engine.queue = s.engine.queue) :
      exec .unlock s = .next (t.ended r rest p) :=
    congrArg Host.Outcome.next ((State.serve_of_gate head (gate_unlock coded) rfl handled queue).trans (if_neg alone))
  refine ⟨fun opened => ?opened, fun unlocked => ?unlocked, fun locked expired => ?expired,
    fun locked tries right => ?right, fun locked tries wrong => ?wrong⟩
  case opened =>
    have refused : gate s.engine.protection .unlock = some .noCode := by rw [opened, gate_opened_iff.2 (by decide)]
    exact congrArg Host.Outcome.next (State.serve_of_refused _ head (.inl alone) refused)
  case unlocked => exact served (.inl unlocked) (handleUnlock_of_unlocked unlocked) rfl
  case expired => exact served (.inr locked) (handleUnlock_of_expired locked expired) rfl
  case right =>
    have agrees : s.engine.code = some r.accessCode := by rw [right, carried]
    exact served (.inr locked) (handleUnlock_of_match locked tries agrees) rfl
  case wrong =>
    have mismatch : s.engine.code ≠ some r.accessCode := by rwa [carried]
    exact served (.inr locked) (handleUnlock_of_mismatch locked tries mismatch) (by split_ifs <;> rfl)

/-! ### SET_CODE and FREEZE (R160, R165) -/

section
variable {s : State} {r : Request}

theorem handleSetCode_of_params {hi lo : Word} (params : r.params = [hi, lo]) :
    handleSetCode s r =
      (s.setEngine { s.engine with code := some (BitVec.append hi lo), protection := .unlocked }).handled
        ⟨.ok, 0, 0, []⟩ := by
  rw [handleSetCode, Request.accessCode_of_params params]
  rfl

theorem handleFreeze_of_frozen (frozen : s.engine.protection = .frozen) :
    handleFreeze s r = s.handled ⟨.ok, 0, 0, []⟩ :=
  if_pos frozen

theorem handleFreeze_of_idle (thawed : s.engine.protection ≠ .frozen) (idle : s.store.pendingSwap = none) :
    handleFreeze s r = (s.setEngine { s.engine with protection := .frozen }).handled ⟨.ok, 0, 0, []⟩ := by
  rw [handleFreeze, if_neg thawed, idle]
  rfl

theorem handleFreeze_of_pending (thawed : s.engine.protection ≠ .frozen) (pending : s.store.pendingSwap.isSome = true) :
    handleFreeze s r = s.handled ⟨.pending, 0, 0, []⟩ := by
  rw [handleFreeze, if_neg thawed, if_pos pending]
  rfl

end

/-- Settles O47: each request is let through, then handled and answered, or dropped as a broadcast; FREEZE by whether the
part is frozen already and whether a swap is pending. -/
theorem codeLockAndFreeze : Obligations.CodeLockAndFreeze := by
  intro s r rest answered
  refine ⟨fun hi lo head writable params => congrArg Host.Outcome.next ?setCode,
    fun head unlocked => congrArg Host.Outcome.next ?clearCode, fun head coded => congrArg Host.Outcome.next ?lock,
    fun head frozen => congrArg Host.Outcome.next ?frozen, fun head thawed idle => congrArg Host.Outcome.next ?freeze,
    fun head thawed pending => congrArg Host.Outcome.next ?pending⟩
  case setCode => exact State.serve_of_gate head (gate_setCode writable) rfl (handleSetCode_of_params params) rfl
  case clearCode => exact State.serve_of_gate head (by rw [unlocked, gate_unlocked]) rfl rfl rfl
  case lock => exact State.serve_of_gate head (gate_lock coded) rfl rfl rfl
  case frozen => exact State.serve_of_gate head (gate_freeze _) rfl (handleFreeze_of_frozen frozen) rfl
  case freeze => exact State.serve_of_gate head (gate_freeze _) rfl (handleFreeze_of_idle thawed idle) rfl
  case pending => exact State.serve_of_gate head (gate_freeze _) rfl (handleFreeze_of_pending thawed pending) rfl

/-! ### ECHO, READ_STATUS and READ_HEALTH (R166, R167, R187) -/

/-- R187: HEALTH_LOW alone makes the last word of a READ_HEALTH response. -/
theorem bitWord_zero (b : Bool) : bitWord 0 b = if b then 1 else 0 := by
  cases b <;> rfl

/-- R187: four figures for each of the five health values, then the interval count and HEALTH_LOW. -/
theorem Health.words_eq (h : Health) :
    h.words =
      (([0, 1, 2, 3, 4] : List (Fin 5)).flatMap fun a =>
          [wordOf h.value[a], wordOf h.worst[a], wordOf h.threshold[a], wordOf h.raw[a]])
        ++ [wordOf h.interval, if h.low then 1 else 0] := by
  rw [Health.words, bitWord_zero]

/-- Settles O49: each read is let through in every protection state and answers from the state as it stands. -/
theorem readsChangeNothing : Obligations.ReadsChangeNothing := by
  intro s r rest answered
  refine ⟨fun head => congrArg Host.Outcome.next ?echo, fun head => congrArg Host.Outcome.next ?status,
    fun head => congrArg Host.Outcome.next ?health⟩
  case echo => exact State.serve_of_gate head (gate_of_read _ (by decide)) rfl rfl rfl
  case status => exact State.serve_of_gate head (gate_of_read _ (by decide)) rfl rfl rfl
  case health =>
    rw [← Health.words_eq]
    exact State.serve_of_gate head (gate_of_read _ (by decide)) rfl rfl rfl

end Sys2Proof.Machine

/-! The health block at a cycle boundary (R184 to R186). -/

namespace Sys2Proof.Machine

/-! ### The cycle counted (R182, R184) -/

/-- R182: a raw count in its range is raised by one or by nothing. -/
theorem countUp_ite {c : Nat} (range : c ≤ 65535) (on : Bool) :
    countUp (if on then 1 else 0) c = if on then min 65535 (c + 1) else c := by
  cases on
  · exact min_eq_right range
  · rfl

/-- R184: of a cycle just closed, its fluctuation step is above FLUCT_BAND. -/
theorem fluctuates_iff (b : Bank) (step : Option Nat) :
    fluctuates b step = true ↔ step.isSome = true ∧ b.param .fluctBand < (step.getD 0 : Nat) := by
  cases step <;> simp [fluctuates]

/-- R182: a raw count is raised alone. -/
theorem Health.getElem_count_raw (h : Health) (a b : Attribute) (n : Nat) :
    (h.count a n).raw[b] = if a = b then countUp n h.raw[a] else h.raw[b] := by
  simp only [Fin.ext_iff]
  exact Vector.getElem_set a.isLt b.isLt

section
variable (h : Health) (fluctuating headroom : Bool)

/-- R184: FLUCTUATION, HEADROOM and CONVERTER are raised where their figure of the cycle says so; the counts raised
between boundaries stay. -/
theorem Health.countCycle_raw (range : ∀ a : Fin 5, h.raw[a] ≤ 65535) (a : Fin 5) :
    (h.countCycle fluctuating headroom).raw[a] =
      ![if fluctuating then min 65535 (h.raw[(0 : Fin 5)] + 1) else h.raw[(0 : Fin 5)], h.raw[(1 : Fin 5)],
        if headroom then min 65535 (h.raw[(2 : Fin 5)] + 1) else h.raw[(2 : Fin 5)], h.raw[(3 : Fin 5)],
        if h.blockedSeen then min 65535 (h.raw[(4 : Fin 5)] + 1) else h.raw[(4 : Fin 5)]] a := by
  rw [← countUp_ite (range 0), ← countUp_ite (range 2), ← countUp_ite (range 4)]
  have raised : (h.countCycle fluctuating headroom).raw[a] =
      (((h.count 0 (if fluctuating then 1 else 0)).count 2 (if headroom then 1 else 0)).count 4
        (if h.blockedSeen then 1 else 0)).raw[a] := rfl
  simp only [raised, Health.getElem_count_raw]
  fin_cases a <;> rfl

end

/-! ### The end of an interval (R185, R186) -/

/-- R185: the divisors of the five health values. -/
theorem divisor_eq (a : Attribute) : divisor a = ![2, 16, 2, 4, 2] a := by
  revert a
  decide

/-- R186: HEALTH_LOW is on where a value has reached a threshold that is set. -/
theorem Health.isLow_iff (h : Health) :
    h.isLow = true ↔ ∃ a : Fin 5, h.threshold[a] ≠ 0 ∧ h.value[a] ≤ h.threshold[a] := by
  have every (a : Attribute) : a ∈ ([0, 1, 2, 3, 4] : List Attribute) := List.mem_finRange a
  rw [Health.isLow, List.any_eq_true]
  simp [every]

section
variable (h : Health)

@[simp] theorem Health.endInterval_raw (a : Fin 5) : h.endInterval.raw[a] = 0 :=
  Vector.getElem_replicate a.isLt

@[simp] theorem Health.endInterval_value (a : Fin 5) : h.endInterval.value[a] = healthValue a h.raw[a] :=
  Vector.getElem_ofFn a.isLt

/-- R185: the worst becomes the smaller of the worst and the new value. -/
@[simp] theorem Health.endInterval_worst (a : Fin 5) :
    h.endInterval.worst[a] = min h.worst[a] (healthValue a h.raw[a]) := by
  rw [← Health.endInterval_value]
  exact Vector.getElem_ofFn a.isLt

/-- R185, R186: HEALTH_LOW is evaluated on the new values. -/
theorem Health.endInterval_low_iff :
    h.endInterval.low = true ↔
      ∃ a : Fin 5, h.threshold[a] ≠ 0 ∧ healthValue a h.raw[a] ≤ h.threshold[a] := by
  simp only [← Health.endInterval_value]
  exact Health.isLow_iff _

end

/-! ### The boundary (R184, R185) -/

section
variable (s : State)

/-- R184: the health block of `s` after the cycle just closed is counted, before any interval ends. -/
def State.healthCounted : Health :=
  s.health.countCycle (fluctuates s.bank s.tracker.lastStep) (s.composer.qClamped || s.composer.nScaled)

theorem State.healthBoundary_health_of_lt (going : s.health.interval + 1 < s.bank.count .healthInterval) :
    s.healthBoundary.health = s.healthCounted :=
  if_neg (Nat.not_le.2 going)

theorem State.healthBoundary_health_of_le (ended : s.bank.count .healthInterval ≤ s.health.interval + 1) :
    s.healthBoundary.health = s.healthCounted.endInterval :=
  if_pos ended

/-- R184, R185: no BLOCKED set is seen after the count, and the end of an interval keeps that and the thresholds. -/
theorem State.healthBoundary_blockedSeen_threshold :
    s.healthBoundary.health.blockedSeen = false ∧ s.healthBoundary.health.threshold = s.health.threshold := by
  rcases Nat.lt_or_ge (s.health.interval + 1) (s.bank.count .healthInterval) with going | ended
  · rw [s.healthBoundary_health_of_lt going]
    exact ⟨rfl, rfl⟩
  · rw [s.healthBoundary_health_of_le ended]
    exact ⟨rfl, rfl⟩

end

/-- Settles O44: the boundary counts the cycle and, where the interval count reaches HEALTH_INTERVAL, ends the interval
on the counts so raised. -/
theorem healthAtABoundary : Obligations.HealthAtABoundary := by
  intro s range h u up step raw figure
  have counted (a : Fin 5) : s.healthCounted.raw[a] = raw a := by
    rw [State.healthCounted, Health.countCycle_raw _ _ _ range]
    simp only [fluctuates_iff, Bool.or_eq_true]
    rfl
  have valued (a : Fin 5) : healthValue a s.healthCounted.raw[a] = figure a := by
    rw [healthValue, counted, divisor_eq]
  obtain ⟨unblocked, thresholds⟩ := s.healthBoundary_blockedSeen_threshold
  refine ⟨unblocked, thresholds, fun going => ?going, fun ended => ?ended⟩
  case going =>
    have u_eq : u = s.healthCounted := s.healthBoundary_health_of_lt going
    rw [u_eq]
    exact ⟨rfl, rfl, rfl, rfl, counted⟩
  case ended =>
    have u_eq : u = s.healthCounted.endInterval := s.healthBoundary_health_of_le ended
    rw [u_eq]
    refine ⟨rfl, fun a => ⟨s.healthCounted.endInterval_raw a, ?value, ?worst⟩, ?low⟩
    case value => rw [Health.endInterval_value, valued]
    case worst =>
      rw [Health.endInterval_worst, valued]
      rfl
    case low =>
      simp only [Health.endInterval_low_iff, valued]
      rfl

end Sys2Proof.Machine

/-! READ_EVENTS (R177, R178). -/

namespace Sys2Proof.Machine

/-- R159: READ_EVENTS is let through in every protection state. -/
theorem gate_readEvents (p : Protection) : gate p .readEvents = none := by
  cases p <;> rfl

/-- R177, R178: `n` of the oldest records leave, the overflow flag becomes clear and in LATCHED mode the line follows the
queue. -/
theorem EventUnit.removeOldest_eq (mode : AttentionMode) (n : Nat) (e : EventUnit) :
    e.removeOldest mode n =
      { queue := e.queue.drop n
        overflow := false
        line := if mode = .latched then decide (e.queue.drop n ≠ []) else e.line
        pulse := e.pulse } := by
  have follows : (!(e.queue.drop n).isEmpty) = decide (e.queue.drop n ≠ []) := by
    cases e.queue.drop n <;> rfl
  rw [EventUnit.removeOldest, follows]

section
variable {s : State} {r : Request} {rest : List Request}

theorem handleReadEvents_of_illegal (illegal : r.param 0 = 0 ∨ 8 < r.param 0) :
    handleReadEvents s r = s.handled ⟨.badValue, 0, 0, []⟩ :=
  if_pos (illegal.imp_left fun zero => by omega)

/-- R177: the answer of a legal count holds the number removed, the number left, the overflow flag as it stood and the
records removed. -/
theorem handleReadEvents_of_legal (low : 1 ≤ r.param 0) (high : r.param 0 ≤ 8) :
    let n := r.param 0
    let taken := s.events.queue.take n
    let left := s.events.queue.drop n
    handleReadEvents s r =
      (s.setEvents (s.events.removeOldest s.engine.attention n) s.picks).handled
        ⟨.ok, 0, 0,
          [wordOf taken.length, wordOf left.length, if s.events.overflow then 1 else 0]
            ++ taken.flatMap EventRecord.words⟩ := by
  intro n taken left
  have number_left : s.events.queue.length - taken.length = left.length := by
    rw [List.length_take, List.length_drop]
    omega
  rw [← number_left, ← bitWord_zero]
  exact if_neg (by omega)

/-- R156, R177: a READ_EVENTS handled so is answered, or dropped where it is a broadcast. -/
theorem exec_readEvents_of_handled {t : State} {p : Reply} (head : AtHead s .readEvents r rest)
    (handled : handleReadEvents s r = t.handled p) (queue : t.engine.queue = s.engine.queue) :
    exec .readEvents s = .next (if r.address = 63 then s.dropped rest else t.ended r rest p) :=
  congrArg Host.Outcome.next (State.serve_of_gate head (gate_readEvents _) rfl handled queue)

end

/-- Settles O55: the count decides between the two answers, in every protection state; a broadcast gets neither. -/
theorem readEventsRemovesTheOldest : Obligations.ReadEventsRemovesTheOldest := by
  intro s r rest head n taken left
  refine ⟨fun all => ?broadcast, fun alone low high => ?legal, fun alone illegal => ?illegal⟩
  case broadcast => exact congrArg Host.Outcome.next (State.serve_of_broadcast _ head all rfl)
  case legal =>
    rw [exec_readEvents_of_handled head (handleReadEvents_of_legal low high) rfl, if_neg alone,
      EventUnit.removeOldest_eq]
    rfl
  case illegal => rw [exec_readEvents_of_handled head (handleReadEvents_of_illegal illegal) rfl, if_neg alone]

end Sys2Proof.Machine

/-! Frames: which parts of the state an operation touches, each operation said once. A statement about other parts then
holds after it as before. -/

namespace Sys2Proof.Machine

/-! ### The parts of a state -/

/-- The parts of a state that the frames speak of. Three of them are views of a larger part: `attention` of `engine`,
`bank`, `swap` and `auditCounter` of `store`, `trip` of `supervision`. -/
inductive Part where
  | pending | phase | pins | linkMSynced | counters | sources | ring | waiting | tracker | transform | composer | linkC
  | store | bank | swap | auditCounter | supervision | trip | engine | attention | events | health | linkMOut | linkCOut
  deriving DecidableEq, Repr

/-- Two states alike in one part. -/
def Part.Same (s t : State) : Part → Prop
  | .pending => t.pending = s.pending
  | .phase => t.phase = s.phase
  | .pins => t.pins = s.pins
  | .linkMSynced => t.linkMSynced = s.linkMSynced
  | .counters => t.intake.counters = s.intake.counters
  | .sources => t.intake = { s.intake with counters := t.intake.counters }
  | .ring => t.ring = { s.ring with waiting := t.ring.waiting }
  | .waiting => t.ring.waiting = s.ring.waiting
  | .tracker => t.tracker = s.tracker
  | .transform => t.transform = s.transform
  | .composer => t.composer = s.composer
  | .linkC => t.linkC = s.linkC
  | .store => t.store = s.store
  | .bank => t.bank = s.bank
  | .swap => t.store.pendingSwap = s.store.pendingSwap
  | .auditCounter => t.store.auditCounter = s.store.auditCounter
  | .supervision => t.supervision = s.supervision
  | .trip => t.supervision.trip = s.supervision.trip
  | .engine => t.engine = s.engine
  | .attention => t.engine.attention = s.engine.attention
  | .events => t.events = s.events
  | .health => t.health = s.health
  | .linkMOut => t.linkMOut = s.linkMOut
  | .linkCOut => t.linkCOut = s.linkCOut

/-- From `s` to `t` only the parts named are touched. -/
def Leaves (touched : List Part) (s t : State) : Prop := ∀ p, p ∉ touched → p.Same s t

namespace Leaves

variable {ps qs : List Part} {s t u : State}

/-- The parts that are not listed are alike. -/
theorem of_others (same : ∀ p, ps.elem p = false → p.Same s t) : Leaves ps s t :=
  fun p apart => same p (Bool.eq_false_iff.2 fun listed => apart (List.elem_iff.1 listed))

theorem refl (ps : List Part) (s : State) : Leaves ps s s := fun p _ => by cases p <;> rfl

theorem trans (h : Leaves ps s t) (k : Leaves ps t u) : Leaves ps s u := by
  intro p hp
  have first := h p hp
  have second := k p hp
  cases p <;> simp only [Part.Same] at first second ⊢ <;> rw [second, first]

theorem mono (h : Leaves ps s t) (sub : ps ⊆ qs) : Leaves qs s t := fun p hp => h p fun mem => hp (sub mem)

/-- Two operations one after the other touch what either does. -/
theorem andThen (h : Leaves ps s t) (k : Leaves qs t u) : Leaves (ps ++ qs) s u :=
  (h.mono (List.subset_append_left ps qs)).trans (k.mono (List.subset_append_right ps qs))

theorem ite {c : Prop} [Decidable c] (h : Leaves ps s t) (k : Leaves ps s u) : Leaves ps s (if c then t else u) := by
  split <;> assumption

theorem whenRunning {f : State → State} (h : Leaves ps s (f s)) : Leaves ps s (s.whenRunning f) :=
  ite h (refl ps s)

end Leaves

/-- A statement that depends on the parts `D` of a state alone. -/
def Reads (D : List Part) (P : State → Prop) : Prop := ∀ s t : State, (∀ p ∈ D, p.Same s t) → P s → P t

/-- A statement holds after an operation that touches none of the parts it depends on. -/
theorem Reads.after {D ps : List Part} {P : State → Prop} (r : Reads D P) {s t : State} (l : Leaves ps s t)
    (apart : ∀ p ∈ D, p ∉ ps) : P s → P t :=
  r s t fun p mem => l p (apart p mem)

/-! ### The updates of one block -/

section
variable (s : State)

theorem setPins_leaves (x : Pins) : Leaves [.pins] s (s.setPins x) :=
  Leaves.of_others fun p other => by cases p <;> trivial

theorem setWaiting_leaves (w : List Arrival) : Leaves [.waiting] s (s.setRing { s.ring with waiting := w }) :=
  Leaves.of_others fun p other => by cases p <;> trivial

theorem setCounters_leaves (c : Counters) : Leaves [.counters] s (s.setIntake { s.intake with counters := c }) :=
  Leaves.of_others fun p other => by cases p <;> trivial

theorem setComposer_leaves (x : Composer) : Leaves [.composer] s (s.setComposer x) :=
  Leaves.of_others fun p other => by cases p <;> trivial

theorem setLinkC_leaves (x : LinkC) : Leaves [.linkC] s (s.setLinkC x) :=
  Leaves.of_others fun p other => by cases p <;> trivial

theorem setHealth_leaves (x : Health) : Leaves [.health] s (s.setHealth x) :=
  Leaves.of_others fun p other => by cases p <;> trivial

theorem setSupervision_leaves (x : Supervision) : Leaves [.supervision, .trip] s (s.setSupervision x) :=
  Leaves.of_others fun p other => by cases p <;> trivial

theorem setEngine_leaves (x : Engine) : Leaves [.engine, .attention] s (s.setEngine x) :=
  Leaves.of_others fun p other => by cases p <;> trivial

theorem setEvents_leaves (x : EventUnit) (picks : Nat) : Leaves [.events] s (s.setEvents x picks) :=
  Leaves.of_others fun p other => by cases p <;> trivial

theorem sendM_leaves (frame : List Word) : Leaves [.linkMOut] s (s.sendM frame) :=
  Leaves.of_others fun p other => by cases p <;> trivial

/-- An update of the store that keeps the active bank, the pending swap and the audit counter. -/
theorem setStore_leaves {x : TableStore} (bank : x.activeBank = s.store.activeBank)
    (swap : x.pendingSwap = s.store.pendingSwap) (audit : x.auditCounter = s.store.auditCounter) :
    Leaves [.store] s (s.setStore x) :=
  Leaves.of_others fun p other => by cases p <;> trivial

/-- An update of the engine that keeps the attention mode. -/
theorem setEngine_leaves_attention {x : Engine} (same : x.attention = s.engine.attention) :
    Leaves [.engine] s (s.setEngine x) :=
  Leaves.of_others fun p other => by cases p <;> trivial

theorem setLinkMSynced_leaves (x : Bool) : Leaves [.linkMSynced] s { s with linkMSynced := x } :=
  Leaves.of_others fun p other => by cases p <;> trivial

/-! ### The event unit and the counters -/

theorem deliver_leaves (g : List (List Offer)) : Leaves [.events] s (s.deliver g) := setEvents_leaves s _ _

theorem offerChanges_leaves (before : State) (cs : List Condition) : Leaves [.events] s (s.offerChanges before cs) :=
  deliver_leaves s _

theorem record_leaves (body : EventBody) : Leaves [.events] s (s.record body) := deliver_leaves s _

theorem countMalformed_leaves : Leaves [.counters] s s.countMalformed := setCounters_leaves s _

/-! ### Inputs -/

theorem intakeSample_leaves (f : SampleFields) : Leaves [.counters, .waiting] s (s.intakeSample f) := by
  unfold State.intakeSample
  split
  · exact (setCounters_leaves s _).mono (by decide)
  · split
    · exact (setCounters_leaves s _).mono (by decide)
    · exact (setCounters_leaves s _).andThen (setWaiting_leaves _ _)

theorem takeRequest_leaves (r : Request) : Leaves [.engine] s (s.takeRequest r) :=
  Leaves.ite (setEngine_leaves_attention s (by unfold Engine.offerRequest; split <;> rfl)) (Leaves.refl _ s)

/-- R2, R3: what a frame on link M can touch. -/
theorem receiveM_leaves (frame : List Word) : Leaves [.counters, .waiting, .engine] s (s.receiveM frame) := by
  unfold State.receiveM
  split
  · split
    · exact (countMalformed_leaves s).mono (by decide)
    · exact (intakeSample_leaves s _).mono (by decide)
    · exact (takeRequest_leaves s _).mono (by decide)
  · exact Leaves.refl _ s

/-- R100, R101: what a frame on link C can touch. -/
theorem receiveC_leaves (frame : List Word) : Leaves [.linkC, .events, .counters] s (s.receiveC frame) := by
  unfold State.receiveC
  split
  · split
    · exact ((setLinkC_leaves s _).andThen (offerChanges_leaves _ _ _)).mono (by decide)
    · exact (countMalformed_leaves s).mono (by decide)
  · exact Leaves.refl _ s

theorem edge_leaves (high : Bool) : Leaves [.pins, .linkC, .events] s (s.edge high) := by
  have pins := setPins_leaves s { s.pins with cblk := high }
  have taken : ∀ t : State, Leaves [.linkC, .events] t (t.takeEdge high) := fun t =>
    (setLinkC_leaves t _).andThen (offerChanges_leaves _ _ _)
  exact pins.andThen (taken _).whenRunning

theorem loseSignal_leaves (link : Link) (mid : Bool) :
    Leaves [.counters, .linkMSynced, .linkC, .events] s (s.loseSignal link mid) := by
  unfold State.loseSignal
  have counted (c : Bool) : Leaves [.counters] s (if c then s.countMalformed else s) :=
    Leaves.ite (countMalformed_leaves s) (Leaves.refl _ s)
  cases link with
  | m => exact (((counted _).andThen (setLinkMSynced_leaves _ _)).andThen (record_leaves _ _)).mono (by decide)
  | c => exact (((counted _).andThen (setLinkC_leaves _ _)).andThen (record_leaves _ _)).mono (by decide)

theorem regainSync_leaves (link : Link) : Leaves [.linkMSynced, .linkC, .events] s (s.regainSync link) := by
  cases link with
  | m =>
    exact Leaves.ite (Leaves.refl _ s) (((setLinkMSynced_leaves s _).andThen (record_leaves _ _)).mono (by decide))
  | c => exact Leaves.ite (Leaves.refl _ s) (((setLinkC_leaves s _).andThen (record_leaves _ _)).mono (by decide))

theorem completeAudit_leaves : Leaves [.store, .events] s s.completeAudit := by
  have ended (fault : Bool) :
      Leaves [.store] s (s.setStore { s.store with auditInFlight := false, tableFault := fault }) :=
    setStore_leaves s rfl rfl rfl
  exact Leaves.ite ((ended _).andThen (offerChanges_leaves _ _ _)) (Leaves.refl _ s)

theorem endPulse_leaves : Leaves [.events] s s.endPulse := Leaves.ite (setEvents_leaves s _ _) (Leaves.refl _ s)

/-! ### Requests and their answers -/

theorem removeHead_leaves : Leaves [.engine] s s.removeHead := setEngine_leaves_attention s rfl

theorem answer_leaves (r : Request) (p : Reply) : Leaves [.linkMOut, .engine] s (s.answer r p) :=
  (Leaves.ite (Leaves.refl _ s) (sendM_leaves s _)).andThen (removeHead_leaves _)

/-- What a handling with its answer touches, from what the handling touches. -/
theorem close_leaves {h : Handled} {ps : List Part} (r : Request) (done : Leaves ps s h.state) :
    Leaves (ps ++ [.linkMOut, .engine]) s (h.close r) := by
  unfold Handled.close
  split
  · exact done.andThen (answer_leaves _ _ _)
  · exact done.mono (List.subset_append_left _ _)

theorem setShadow_leaves (b : Bank) : Leaves [.store] s (s.setStore (s.store.setShadow b)) :=
  setStore_leaves s (TableStore.activeBank_setShadow _ _) (by unfold TableStore.setShadow; split <;> rfl)
    (by unfold TableStore.setShadow; split <;> rfl)

theorem handleList_leaves (part : List (List Word) → List (List Word)) (r : Request) :
    Leaves [.store] s (handleList part s r).state := by
  unfold handleList
  split
  · exact Leaves.refl _ s
  · split
    · exact Leaves.refl _ s
    · exact setShadow_leaves s _

theorem handleUnlock_leaves (r : Request) : Leaves [.engine, .events] s (handleUnlock s r).state := by
  have engine (x : Engine) (same : x.attention = s.engine.attention) : Leaves [.engine, .events] s (s.setEngine x) :=
    (setEngine_leaves_attention s same).mono (by decide)
  unfold handleUnlock
  split
  · exact Leaves.refl _ s
  · split
    · exact Leaves.refl _ s
    · split
      · exact engine _ rfl
      · simp only [State.handled]
        have recorded (t : State) : Leaves [.engine, .events] t (t.record (.access 5)) :=
          (record_leaves t _).mono (by decide)
        have missed := engine { s.engine with attempts := s.engine.attempts + 1 } rfl
        exact Leaves.ite (missed.trans (recorded _)) missed

theorem setPending_leaves (x : Option Word) :
    Leaves [.store, .swap] s (s.setStore { s.store with pendingSwap := x }) :=
  Leaves.of_others fun p other => by cases p <;> trivial

/-- The parts that the handling of a request of each code touches. -/
def RequestCode.handles : RequestCode → List Part
  | .writeTable => [.store]
  | .clone => [.engine]
  | .commitSwap => [.engine]
  | .cancelSwap => [.store, .swap]
  | .readEvents => [.events]
  | .setMonitor => [.engine]
  | .wake => [.supervision, .events]
  | .clearTrip => [.supervision, .trip]
  | .inject => [.composer, .events]
  | .injectClear => [.composer, .events]
  | .setThreshold => [.health, .events]
  | .setAttentionMode => [.engine, .attention, .events]
  | .resetController => [.engine]
  | .setCode => [.engine]
  | .clearCode => [.engine]
  | .unlock => [.engine, .events]
  | .lock => [.engine]
  | .freeze => [.engine]
  | _ => []

theorem handlerOf_leaves (c : RequestCode) (r : Request) : Leaves c.handles s (handlerOf c s r).state := by
  have same (ps : List Part) := Leaves.refl ps s
  have engine (x : Engine) (kept : x.attention = s.engine.attention) : Leaves [.engine] s (s.setEngine x) :=
    setEngine_leaves_attention s kept
  cases c with
  | echo => exact same _
  | readStatus => exact same _
  | readHealth => exact same _
  | readTable => simp only [handlerOf, handleReadTable]; split <;> [exact same _; split <;> exact same _]
  | writeTable => exact handleList_leaves s id r
  | clone => simp only [handlerOf, handleClone]; split <;> [exact same _; exact engine _ rfl]
  | commitSwap => simp only [handlerOf, handleCommitSwap]; split <;> [exact same _; exact engine _ rfl]
  | cancelSwap => simp only [handlerOf, handleCancelSwap]; split <;> [exact setPending_leaves s none; exact same _]
  | readEvents => simp only [handlerOf, handleReadEvents]; split <;> [exact same _; exact setEvents_leaves s _ _]
  | setMonitor => simp only [handlerOf, handleSetMonitor]; split <;> [exact engine _ rfl; exact same _]
  | wake =>
    have woken : Leaves [.supervision] s (s.setSupervision s.supervision.wake) :=
      Leaves.of_others fun p other => by cases p <;> trivial
    exact woken.andThen (offerChanges_leaves _ _ _)
  | clearTrip => exact setSupervision_leaves s _
  | inject => exact (setComposer_leaves s _).andThen (offerChanges_leaves _ _ _)
  | injectClear =>
    simp only [handlerOf, handleInjectClear]
    split <;> [exact (setComposer_leaves s _).andThen (offerChanges_leaves _ _ _); exact same _]
  | setThreshold =>
    simp only [handlerOf, handleSetThreshold]
    split <;> [exact (setHealth_leaves s _).andThen (offerChanges_leaves _ _ _); exact same _]
  | setAttentionMode =>
    simp only [handlerOf, handleSetAttentionMode]
    split
    · exact same _
    · split <;> [exact same _; exact (setEngine_leaves s _).andThen (setEvents_leaves _ _ _)]
  | resetController => exact engine _ rfl
  | setCode => exact engine _ rfl
  | clearCode => exact engine _ rfl
  | unlock => exact handleUnlock_leaves s r
  | lock => exact engine _ rfl
  | freeze =>
    simp only [handlerOf, handleFreeze]
    split <;> [exact same _; split <;> [exact same _; exact engine _ rfl]]

theorem finishClone_leaves (r : Request) : Leaves [.store, .linkMOut, .engine] s (finishClone s r) :=
  (setShadow_leaves s _).andThen (answer_leaves _ _ _)

/-- R122: what the completion of a commit touches before any swap made at once. -/
theorem commitAnswered_leaves (r : Request) (x : Option Word) (p : Reply) :
    Leaves [.store, .swap, .linkMOut, .engine] s ((s.setStore { s.store with pendingSwap := x }).answer r p) :=
  (setPending_leaves s x).andThen (answer_leaves _ _ _)

/-! ### The blocks at a released set (R35) -/

theorem noteSet_leaves (set : ReleasedSet) : Leaves [.counters, .ring] s (s.noteSet set) :=
  Leaves.of_others fun p other => by cases p <;> trivial

theorem clearWindows_leaves (ns : List (Fin 6)) : Leaves [.transform] s (s.clearWindows ns) := by
  induction ns generalizing s with
  | nil => exact Leaves.refl _ s
  | cons n ns ih =>
    have one : Leaves [.transform] s (s.clearWindow n) :=
      Leaves.of_others fun p other => by cases p <;> trivial
    exact one.trans (ih (s.clearWindow n))

/-- R10 to R15, R66, R139: intake's update at a set before its records are offered. -/
def State.intakeUpdated (s : State) (set : ReleasedSet) : State :=
  let after := nextSources s.bank set s.intake.sources
  let lost := lostFeeders s.bank s.intake.sources after
  ((s.setIntake (s.intake.withSources s.bank after)).clearWindows lost).setSupervision
    { s.supervision with arcs := darken s.supervision.arcs lost }

theorem State.intakeRelease_eq_deliver (set : ReleasedSet) :
    ∃ g, s.intakeRelease set = (s.intakeUpdated set).deliver g := ⟨_, rfl⟩

theorem intakeUpdated_leaves (set : ReleasedSet) :
    Leaves [.sources, .transform, .supervision] s (s.intakeUpdated set) := by
  have sources (b : Bank) (v : Vector SourceStatus 8) :
      Leaves [.sources] s (s.setIntake (s.intake.withSources b v)) :=
    Leaves.of_others fun p other => by cases p <;> trivial
  have arcs (t : State) (trip : t.supervision = s.supervision) (v : Vector ArcState 6) :
      Leaves [.supervision] t (t.setSupervision { s.supervision with arcs := v }) := by
    have same : s.supervision.trip = t.supervision.trip := congrArg Supervision.trip trip.symm
    exact Leaves.of_others fun p other => by cases p <;> trivial
  have cleared := (sources s.bank (nextSources s.bank set s.intake.sources)).andThen
    (clearWindows_leaves _ (lostFeeders s.bank s.intake.sources (nextSources s.bank set s.intake.sources)))
  exact cleared.andThen (arcs _ (cleared .supervision (by decide))
    (darken s.supervision.arcs (lostFeeders s.bank s.intake.sources (nextSources s.bank set s.intake.sources))))

/-- R10 to R15, R66, R139: what intake's update touches. -/
theorem intakeRelease_leaves (set : ReleasedSet) :
    Leaves [.sources, .transform, .supervision, .events] s (s.intakeRelease set) :=
  (intakeUpdated_leaves s set).andThen (deliver_leaves _ _)

theorem noteReleased_leaves (set : ReleasedSet) : Leaves [.ring, .health] s (s.noteReleased set) :=
  Leaves.of_others fun p other => by cases p <;> trivial

theorem track_leaves (count : Nat) (v : Option Phases) : Leaves [.tracker, .events] s (s.track count v) :=
  Leaves.of_others fun p other => by cases p <;> trivial

theorem feedWindows_leaves (i : Nat) (v : Vector (Option Phases) 6) : Leaves [.transform] s (s.feedWindows i v) :=
  Leaves.of_others fun p other => by cases p <;> trivial

theorem compose_leaves (count : Nat) (out : Composed) :
    Leaves [.composer, .health, .events] s (s.compose count out) :=
  Leaves.of_others fun p other => by cases p <;> trivial

theorem sendC_leaves (frame : List Word) : Leaves [.linkCOut] s (s.sendC frame) :=
  Leaves.of_others fun p other => by cases p <;> trivial

theorem leaveC_leaves (count : Nat) : Leaves [.linkCOut, .linkC, .events] s (s.leaveC.countStale count) :=
  Leaves.of_others fun p other => by cases p <;> trivial

theorem closeCycle_leaves : Leaves [.tracker, .events] s s.closeCycle :=
  Leaves.of_others fun p other => by cases p <;> trivial

/-! ### The boundary (R52, R87, R126) -/

theorem rollFlags_leaves : Leaves [.composer] s s.rollFlags := setComposer_leaves s _

theorem TableStore.auditStep_eq (cycles : Nat) (t : TableStore) :
    t.auditStep cycles =
      { t with
        auditInFlight := (t.auditStep cycles).auditInFlight
        auditCounter := (t.auditStep cycles).auditCounter } := by
  simp only [TableStore.auditStep]
  split <;> [split <;> rfl; rfl]

/-- R135, R184: what the boundary's work after any swap touches. -/
theorem boundaryBlocks_leaves (fig : ArcFigures) (e : List Offer) (o : List (List Offer)) :
    Leaves [.health, .supervision, .trip, .store, .auditCounter, .events] s (s.boundaryBlocks fig e o) := by
  have counted : Leaves [.health] s s.healthBoundary := setHealth_leaves s _
  have audit (t : State) (same : t.store = s.store) (cycles : Nat) :
      Leaves [.store, .auditCounter] t (t.setStore (s.store.auditStep cycles)) := by
    rw [TableStore.auditStep_eq, ← same]
    exact Leaves.of_others fun p other => by cases p <;> trivial
  rw [State.boundaryBlocks_eq]
  generalize (State.trips _).1 = v
  have stored := (counted.andThen (setSupervision_leaves _ v)).andThen
    (audit (s.healthBoundary.setSupervision v) rfl (s.bank.count .auditCycles))
  exact (stored.andThen (deliver_leaves _ _)).mono (by decide)

theorem Supervision.onSwap_trip (old new : Bank) (v : Supervision) : (v.onSwap old new).trip = v.trip := by
  unfold Supervision.onSwap; split <;> rfl

/-- R126, R127: what a swap completion touches. -/
theorem swapped_leaves (d : Word) :
    Leaves [.store, .bank, .swap, .sources, .ring, .waiting, .tracker, .transform, .supervision] s (s.swapped d) := by
  intro p hp
  cases p
  case counters => simp only [Part.Same, State.swapped_intake]; rfl
  case trip => exact (congrArg Supervision.trip (s.swapped_supervision d)).trans (Supervision.onSwap_trip _ _ _)
  case auditCounter => simp only [Part.Same, State.swapped_store]; rfl
  case attention => exact congrArg Engine.attention (s.swapped_engine d)
  all_goals first | (simp at hp; done) | simp [Part.Same]

/-- R122, R126: a commit's completion answers with a swap pending or none; a swap pending in an UNSYNCED ring is made at
once. -/
theorem finishCommit_cases (r : Request) :
    ∃ (x : Option Word) (p : Reply),
      (finishCommit s r = (s.setStore { s.store with pendingSwap := x }).answer r p
          ∧ (s.ring.synced = false → x = none))
        ∨ ∃ d, x = some d ∧ s.ring.synced = false
            ∧ finishCommit s r = ((s.setStore { s.store with pendingSwap := x }).answer r p).swapAtOnce d := by
  rcases res : commitResult s.store.shadowBank (r.param 0) with ⟨p, x⟩
  refine ⟨x, p, ?_⟩
  cases x with
  | none => exact .inl ⟨by simp [finishCommit, res], fun _ => rfl⟩
  | some d =>
    cases synced : s.ring.synced with
    | true => exact .inl ⟨by simp [finishCommit, res, synced], by simp⟩
    | false => exact .inr ⟨d, rfl, rfl, by simp [finishCommit, res, synced]⟩

theorem swapAtOnce_leaves (d : Word) :
    Leaves [.store, .bank, .swap, .sources, .ring, .waiting, .tracker, .transform, .supervision, .events] s
      (s.swapAtOnce d) :=
  ((swapped_leaves s d).andThen ((deliver_leaves _ _).trans (deliver_leaves _ _))).mono (by decide)

/-- R122, R126: what the completion of a commit touches, a swap made at once with it. -/
theorem finishCommit_leaves (r : Request) :
    Leaves [.store, .bank, .swap, .sources, .ring, .waiting, .tracker, .transform, .supervision, .events, .linkMOut,
      .engine] s (finishCommit s r) := by
  obtain ⟨x, p, ⟨eq, -⟩ | ⟨d, -, -, eq⟩⟩ := finishCommit_cases s r
  · exact eq ▸ (commitAnswered_leaves s r x p).mono (by decide)
  · exact eq ▸ ((commitAnswered_leaves s r x p).andThen (swapAtOnce_leaves _ d)).mono (by decide)

variable {s} {P : State → Prop}

/-- R52: what the parts of a boundary keep, the boundary keeps, whatever order the free values choose. -/
theorem takeBoundary_keeps (deliver : ∀ (t : State) (g : List (List Offer)), P t → P (t.deliver g))
    (choice : ∀ (t : State) (n : Nat), P t → P (t.setEvents t.events n)) (roll : ∀ t : State, P t → P t.rollFlags)
    (swapped : ∀ (t : State) (d : Word), t.store.pendingSwap = some d → P t → P (t.swapped d))
    (blocks : ∀ (t : State) (fig : ArcFigures) (e : List Offer) (o : List (List Offer)), P t →
      P (t.boundaryBlocks fig e o)) (fig : ArcFigures) (h : P s) : P (s.takeBoundary fig) := by
  have swap (t : State) (d : Word) (roll : List Offer) (pending : t.store.pendingSwap = some d) (ht : P t) :
      P (t.boundarySwap d fig roll) := blocks _ _ _ _ (deliver _ _ (swapped t d pending ht))
  unfold State.takeBoundary
  split
  · exact blocks _ _ _ _ (roll s h)
  · next d pending =>
    split
    · exact swap _ d _ pending (roll s h)
    · simp only
      split
      · exact swap _ d _ pending (choice _ _ (roll s h))
      · exact swap _ d _ pending (deliver _ _ (choice _ _ (roll s h)))

/-- R122, R126: what the answer of a commit, a swap and the event unit keep, a commit's completion keeps. -/
theorem finishCommit_keeps (r : Request) (running : s.phase = .running)
    (answered : ∀ t : State, Leaves [.store, .swap, .linkMOut, .engine] s t → P t)
    (swapped : ∀ (t : State) (d : Word), t.phase = .running → P t → P (t.swapped d))
    (deliver : ∀ (t : State) (g : List (List Offer)), P t → P (t.deliver g)) : P (finishCommit s r) := by
  obtain ⟨x, p, ⟨eq, -⟩ | ⟨d, -, -, eq⟩⟩ := finishCommit_cases s r
  · exact eq ▸ answered _ (commitAnswered_leaves s r x p)
  · have frame := commitAnswered_leaves s r x p
    have runs := (frame .phase (by decide)).trans running
    rw [eq]
    exact deliver _ _ (deliver _ _ (swapped _ d runs (answered _ frame)))

end

end Sys2Proof.Machine

/-! What every command keeps: from what each single input, request, reset and block of a released set keeps, to a whole
command, an arrival with all that falls inside it among them (R29, R35, R155). -/

namespace Sys2Proof.Machine

/-! ### Inputs and requests -/

/-- What each input, each answer and each completion keeps, by itself or inside an arrival; resets and the handling of
requests apart. -/
structure KeptByLines (P : State → Prop) : Prop where
  answer : ∀ (t : State) (r : Request) (rest : List Request) (p : Reply), t.phase = .running →
    t.engine.queue = r :: rest → P t → P (t.answer r p)
  straps : ∀ (t : State) (level : BitVec 3), P t → P (t.setPins { t.pins with mon := level })
  receiveM : ∀ (t : State) (frame : List Word), t.phase = .running → P t → P (t.receiveM frame)
  receiveC : ∀ (t : State) (frame : List Word), t.phase = .running → P t → P (t.receiveC frame)
  edge : ∀ (t : State) (high : Bool), P t → P (t.edge high)
  loseSignal : ∀ (t : State) (link : Link) (mid : Bool), t.phase = .running → P t → P (t.loseSignal link mid)
  regainSync : ∀ (t : State) (link : Link), t.phase = .running → P t → P (t.regainSync link)
  finishClone : ∀ (t : State) (r : Request) (rest : List Request), InService t .clone r rest → P t →
    P (finishClone t r)
  finishCommit : ∀ (t : State) (r : Request) (rest : List Request), InService t .commit r rest → P t →
    P (finishCommit t r)
  completeAudit : ∀ t : State, t.phase = .running → P t → P t.completeAudit
  endPulse : ∀ t : State, t.phase = .running → P t → P t.endPulse

/-- What the handling of every request keeps besides. -/
structure KeptByInputs (P : State → Prop) : Prop extends KeptByLines P where
  handle : ∀ (t : State) (c : RequestCode) (r : Request) (rest : List Request), AtHead t c r rest →
    gate t.engine.protection c = none → P t → P ((handlerOf c t r).close r)

namespace KeptByLines

variable {P : State → Prop} (k : KeptByLines P) {s t : State}
include k

/-- R155, R156, R159: a service command whose handling keeps it too. -/
theorem serve (c : RequestCode) (h : P s)
    (handle : ∀ r rest, AtHead s c r rest → gate s.engine.protection c = none → P ((handlerOf c s r).close r)) :
    P (s.serve c (handlerOf c)) := by
  obtain same | ⟨r, rest, head, served⟩ := s.serve_cases c (handlerOf c)
  · rwa [same]
  · rw [served]
    obtain ⟨all, -, dropped⟩ | ⟨o, -, refused⟩ | ⟨through, handled⟩ := s.serveRequest_cases c (handlerOf c) r
    · have answered : s.removeHead = s.answer r (Reply.plain .ok []) := by
        rw [State.answer, if_pos ((Request.broadcast_iff r).2 all)]
      rw [dropped, answered]
      exact k.answer s r rest _ head.running head.queue h
    · rw [refused]
      exact k.answer s r rest _ head.running head.queue h
    · rw [handled]
      exact handle r rest head through

theorem serveUnknown (h : P s) : P s.serveUnknown := by
  unfold State.serveUnknown
  refine s.whenRunning_keeps P _ h fun running => ?_
  split
  · next r rest _ queue =>
    split
    · exact k.answer s r rest _ running queue h
    · exact h
  · exact h

omit k in
theorem completion (op : Operation) {finish : State → Request → State} (h : P s)
    (done : ∀ r rest, InService s op r rest → P (finish s r)) : P (s.complete op finish) := by
  obtain same | ⟨r, rest, service, finished⟩ := s.complete_cases op finish
  · rwa [same]
  · rw [finished]; exact done r rest service

/-- R155: what falls inside an arrival keeps what each input keeps, where a service and the resets keep it too. -/
theorem aside (x : Aside) (serve : x = .serve → P s.serveHead) (powerOn : x = .powerOn → P s.supplyStart)
    (hardReset : x = .hardReset → P s.driveReset) (h : P s) : P (s.takeAside x) := by
  have running (f : State → State) (hf : s.phase = .running → P (f s)) : P (s.whenRunning f) :=
    s.whenRunning_keeps P f h hf
  cases x with
  | serve => exact serve rfl
  | monStraps level => exact k.straps s level h
  | linkMFrame frame => exact running _ fun r => k.receiveM s frame r h
  | linkCFrame frame => exact running _ fun r => k.receiveC s frame r h
  | cblkEdge high => exact k.edge s high h
  | lossOfSignal link mid => exact running (fun s => s.loseSignal link mid) fun r => k.loseSignal s link mid r h
  | syncRegained link => exact running (fun s => s.regainSync link) fun r => k.regainSync s link r h
  | cloneCompletion => exact KeptByLines.completion _ h fun r rest service => k.finishClone s r rest service h
  | commitCompletion => exact KeptByLines.completion _ h fun r rest service => k.finishCommit s r rest service h
  | auditCompletion => exact running _ fun r => k.completeAudit s r h
  | attentionPulseEnd => exact running _ fun r => k.endPulse s r h
  | powerOn => exact powerOn rfl
  | hardReset => exact hardReset rfl

/-- What each input keeps, a command keeps, where its service, the resets and the arrival keep it too. -/
theorem exec (c : Instr) (run : exec c s = .next t) (h : P s)
    (serve : ∀ code : RequestCode, c = code.command → P (s.serve code (handlerOf code)))
    (powerOn : c = .powerOn → P s.supplyStart)
    (hardReset : c = .hardReset → P s.driveReset)
    (holdEnds : ∀ cause straps, c = .resetHoldEnd cause straps → P (s.holdEnds cause straps))
    (selfTest : c = .selfTest → P s.endSelfTest)
    (softReset : ∀ r rest, c = .softReset → InService s .softReset r rest → P (finishSoftReset s r))
    (arrival : ∀ sets, c = .arrival sets → s.phase = .running → P (s.takeNext sets)) : P t := by
  have running (f : State → State) (hf : s.phase = .running → P (f s)) : P (s.whenRunning f) :=
    s.whenRunning_keeps P f h hf
  have served (code : RequestCode) (same : c = code.command) (run : Machine.exec code.command s = .next t) : P t := by
    rw [exec_command] at run
    injection run with eq
    exact eq ▸ serve code same
  cases c with
  | echo => exact served .echo rfl run
  | readStatus => exact served .readStatus rfl run
  | readTable => exact served .readTable rfl run
  | writeTable => exact served .writeTable rfl run
  | clone => exact served .clone rfl run
  | commitSwap => exact served .commitSwap rfl run
  | cancelSwap => exact served .cancelSwap rfl run
  | readEvents => exact served .readEvents rfl run
  | readHealth => exact served .readHealth rfl run
  | setMonitor => exact served .setMonitor rfl run
  | wake => exact served .wake rfl run
  | clearTrip => exact served .clearTrip rfl run
  | inject => exact served .inject rfl run
  | injectClear => exact served .injectClear rfl run
  | setThreshold => exact served .setThreshold rfl run
  | setAttentionMode => exact served .setAttentionMode rfl run
  | resetController => exact served .resetController rfl run
  | setCode => exact served .setCode rfl run
  | clearCode => exact served .clearCode rfl run
  | unlock => exact served .unlock rfl run
  | lock => exact served .lock rfl run
  | freeze => exact served .freeze rfl run
  | unknownRequest => cases run; exact k.serveUnknown h
  | powerOn => cases run; exact powerOn rfl
  | hardReset => cases run; exact hardReset rfl
  | resetHoldEnd cause straps => cases run; exact holdEnds cause straps rfl
  | selfTest => cases run; exact selfTest rfl
  | softReset => cases run; exact completion _ h fun r rest service => softReset r rest rfl service
  | arrival sets => cases run; exact running _ (arrival sets rfl)
  | lossOfSignal link mid => cases run; exact running _ fun r => k.loseSignal s link mid r h
  | syncRegained link => cases run; exact running _ fun r => k.regainSync s link r h
  | malformedFrame frame => cases run; exact running _ fun r => k.receiveM s frame r h
  | sampleFrame frame => cases run; exact running _ fun r => k.receiveM s frame r h
  | requestFrame frame => cases run; exact running _ fun r => k.receiveM s frame r h
  | converterStatusFrame frame => cases run; exact running _ fun r => k.receiveC s frame r h
  | linkCMalformedFrame frame => cases run; exact running _ fun r => k.receiveC s frame r h
  | cblkEdge high => cases run; exact k.edge s high h
  | auditCompletion => cases run; exact running _ fun r => k.completeAudit s r h
  | attentionPulseEnd => cases run; exact running _ fun r => k.endPulse s r h
  | cloneCompletion => cases run; exact completion _ h fun r rest service => k.finishClone s r rest service h
  | commitCompletion => cases run; exact completion _ h fun r rest service => k.finishCommit s r rest service h

end KeptByLines

namespace KeptByInputs

variable {P : State → Prop} (k : KeptByInputs P) {s t : State}
include k

theorem serve (c : RequestCode) (h : P s) : P (s.serve c (handlerOf c)) :=
  k.toKeptByLines.serve c h fun r rest head through => k.handle s c r rest head through h

/-- R155, R158: the request at the head served, whatever its code. -/
theorem serveHead (h : P s) : P s.serveHead := by
  unfold State.serveHead
  split
  · exact h
  · split
    · exact k.serve _ h
    · exact k.serveUnknown h

theorem aside (x : Aside) (powerOn : x = .powerOn → P s.supplyStart) (hardReset : x = .hardReset → P s.driveReset)
    (h : P s) : P (s.takeAside x) :=
  k.toKeptByLines.aside x (fun _ => k.serveHead h) powerOn hardReset h

/-- What each input keeps, a command keeps, where the resets and the arrival keep it too. -/
theorem exec (c : Instr) (run : exec c s = .next t) (h : P s) (powerOn : c = .powerOn → P s.supplyStart)
    (hardReset : c = .hardReset → P s.driveReset)
    (holdEnds : ∀ cause straps, c = .resetHoldEnd cause straps → P (s.holdEnds cause straps))
    (selfTest : c = .selfTest → P s.endSelfTest)
    (softReset : ∀ r rest, c = .softReset → InService s .softReset r rest → P (finishSoftReset s r))
    (arrival : ∀ sets, c = .arrival sets → s.phase = .running → P (s.takeNext sets)) : P t :=
  k.toKeptByLines.exec c run h (fun code _ => k.serve code h) powerOn hardReset holdEnds selfTest softReset arrival

end KeptByInputs

/-- The parts that no input and no service of a request touches, a swap made at once apart. -/
def Part.pathOnly : List Part :=
  [.pending, .phase, .sources, .ring, .tracker, .transform, .bank, .auditCounter, .linkCOut]

theorem RequestCode.handles_apart (c : RequestCode) : ∀ p ∈ Part.pathOnly, p ∉ c.handles := by
  cases c <;> decide

/-- What depends on those parts alone is kept by every input, if a commit's completion keeps it. -/
theorem KeptByInputs.of_reads_commit {D : List Part} {P : State → Prop} (r : Reads D P) (path : D ⊆ Part.pathOnly)
    (finishCommit : ∀ (t : State) (r : Request) (rest : List Request), InService t .commit r rest → P t →
      P (finishCommit t r)) : KeptByInputs P := by
  have after {s t : State} {ps : List Part} (l : Leaves ps s t) (apart : ∀ p ∈ Part.pathOnly, p ∉ ps) : P s → P t :=
    r.after l fun p mem => apart p (path mem)
  exact
    { handle := fun t c r _ _ _ => after (close_leaves t r (handlerOf_leaves t c r)) fun p mem => by
        have closing : p ∉ [Part.linkMOut, .engine] := by revert p; decide
        exact fun listed => (List.mem_append.1 listed).elim (c.handles_apart p mem) closing
      answer := fun t r _ p _ _ => after (answer_leaves t r p) (by decide)
      straps := fun t _ => after (setPins_leaves t _) (by decide)
      receiveM := fun t frame _ => after (receiveM_leaves t frame) (by decide)
      receiveC := fun t frame _ => after (receiveC_leaves t frame) (by decide)
      edge := fun t high => after (edge_leaves t high) (by decide)
      loseSignal := fun t link mid _ => after (loseSignal_leaves t link mid) (by decide)
      regainSync := fun t link _ => after (regainSync_leaves t link) (by decide)
      finishClone := fun t r _ _ => after (finishClone_leaves t r) (by decide)
      finishCommit := finishCommit
      completeAudit := fun t _ => after (completeAudit_leaves t) (by decide)
      endPulse := fun t _ => after (endPulse_leaves t) (by decide) }

/-- What depends on those parts alone is kept by every input, if a swap made at once keeps it. -/
theorem KeptByInputs.of_reads {D : List Part} {P : State → Prop} (r : Reads D P) (path : D ⊆ Part.pathOnly)
    (swapped : ∀ (t : State) (d : Word), t.phase = .running → P t → P (t.swapped d)) : KeptByInputs P :=
  .of_reads_commit r path fun _ req _ service h =>
    finishCommit_keeps req service.running
      (fun _ frame => r.after frame (fun p mem => (by decide : ∀ p ∈ Part.pathOnly, p ∉ _) p (path mem)) h) swapped
      fun u g => r.after (deliver_leaves u g) fun p mem => (by decide : ∀ p ∈ Part.pathOnly, p ∉ _) p (path mem)

theorem KeptByInputs.and {P Q : State → Prop} (p : KeptByInputs P) (q : KeptByInputs Q) :
    KeptByInputs fun t => P t ∧ Q t where
  handle t c r rest head through h := ⟨p.handle t c r rest head through h.1, q.handle t c r rest head through h.2⟩
  answer t r rest a running queue h := ⟨p.answer t r rest a running queue h.1, q.answer t r rest a running queue h.2⟩
  straps t level h := ⟨p.straps t level h.1, q.straps t level h.2⟩
  receiveM t frame running h := ⟨p.receiveM t frame running h.1, q.receiveM t frame running h.2⟩
  receiveC t frame running h := ⟨p.receiveC t frame running h.1, q.receiveC t frame running h.2⟩
  edge t high h := ⟨p.edge t high h.1, q.edge t high h.2⟩
  loseSignal t link mid running h := ⟨p.loseSignal t link mid running h.1, q.loseSignal t link mid running h.2⟩
  regainSync t link running h := ⟨p.regainSync t link running h.1, q.regainSync t link running h.2⟩
  finishClone t r rest service h := ⟨p.finishClone t r rest service h.1, q.finishClone t r rest service h.2⟩
  finishCommit t r rest service h := ⟨p.finishCommit t r rest service h.1, q.finishCommit t r rest service h.2⟩
  completeAudit t running h := ⟨p.completeAudit t running h.1, q.completeAudit t running h.2⟩
  endPulse t running h := ⟨p.endPulse t running h.1, q.endPulse t running h.2⟩

/-- R168: in a running part the end of a hold is the line's level alone, and no self-test ends. -/
theorem holdEnds_leaves_of_running (s : State) (cause : HoldEnd) (straps : BitVec 6) (running : s.phase = .running) :
    Leaves [.pins] s (s.holdEnds cause straps) := by
  cases cause with
  | supplyReached =>
    simp only [State.holdEnds, State.supplyReached, running]
    exact Leaves.refl _ s
  | resetLineHigh =>
    simp only [State.holdEnds, State.resetReleased, running]
    exact setPins_leaves s _

theorem endSelfTest_of_running (s : State) (running : s.phase = .running) : s.endSelfTest = s := by
  simp [State.endSelfTest, running]

/-! ### A released set, place by place -/

/-- The places inside the handling of an arrival (R29, R35, R52, R95). -/
inductive Place where
  /-- No set is being handled. -/
  | between
  /-- The release check has been passed. -/
  | checked
  /-- The set has been formed. -/
  | formed (set : ReleasedSet)
  /-- Intake has been updated at the set. -/
  | updated (set : ReleasedSet)
  /-- The tracker has handled the set, which ends a cycle or does not. -/
  | handled (ends : Bool)
  /-- The reference frame is being sent. -/
  | sending (ends : Bool)
  /-- The cycle has been closed, its boundary not yet raised. -/
  | closed

/-- What falls at each place of a set is among the things that `A` allows. -/
structure Allowed (A : Aside → Prop) (x : SetAsides) : Prop where
  checked : ∀ y ∈ x.checked, A y
  formed : ∀ y ∈ x.formed, A y
  updated : ∀ y ∈ x.updated, A y
  noted : ∀ y ∈ x.noted, A y
  tracked : ∀ y ∈ x.tracked, A y
  fed : ∀ y ∈ x.fed, A y
  composed : ∀ y ∈ x.composed, A y
  framed : ∀ y ∈ x.framed, A y
  sent : ∀ y ∈ x.sent, A y
  closed : ∀ y ∈ x.closed, A y

theorem Allowed.of_all {A : Aside → Prop} {x : SetAsides} (h : ∀ y ∈ x.all, A y) : Allowed A x := by
  constructor <;> intro y hy <;> exact h y (by simp [SetAsides.all, hy])

/-- What holds at each place inside an arrival, kept by each block's work from its place to the next and by what falls
at a place, of which `A` says what may; a reset that abandons the arrival leaves what holds between two sets. -/
structure KeptThroughSets (A : Aside → Prop) (P : Place → State → Prop) : Prop where
  aside : ∀ (p : Place) (t : State) (x : Aside), A x → P p t → P p (t.takeAside x)
  abandoned : ∀ (p : Place) (t : State), t.phase ≠ .running → P p t → P .between t
  check : ∀ t : State, t.ring.synced = true → P .between t → P .checked t
  noteSet : ∀ t : State, t.phase = .running → P .checked t →
    P (.formed (formSet t.bank t.ring)) (t.noteSet (formSet t.bank t.ring))
  intakeRelease : ∀ (t : State) (set : ReleasedSet), t.phase = .running → P (.formed set) t →
    P (.updated set) (t.intakeRelease set)
  noteReleased : ∀ (t : State) (set : ReleasedSet), P (.updated set) t → P (.updated set) (t.noteReleased set)
  track : ∀ (t : State) (set : ReleasedSet), t.phase = .running → P (.updated set) t →
    P (.handled (t.tracker.handle t.bank (voltageValues t.bank t.intake.voltage set)).2)
      (t.track set.count (voltageValues t.bank t.intake.voltage set))
  feedWindows : ∀ (t : State) (ends : Bool) (i : Nat) (v : Vector (Option Phases) 6), P (.handled ends) t →
    P (.handled ends) (t.feedWindows i v)
  compose : ∀ (t : State) (ends : Bool) (count : Nat) (out : Composed), P (.handled ends) t →
    P (.handled ends) (t.compose count out)
  sendC : ∀ (t : State) (ends : Bool) (frame : List Word), t.phase = .running → P (.handled ends) t →
    P (.sending ends) (t.sendC frame)
  leaveC : ∀ (t : State) (ends : Bool) (count : Nat), P (.sending ends) t →
    P (.handled ends) (t.leaveC.countStale count)
  done : ∀ t : State, P (.handled false) t → P .between t
  closeCycle : ∀ t : State, t.phase = .running → P (.handled true) t → P .closed t.closeCycle
  takeBoundary : ∀ (t : State) (fig : ArcFigures), t.phase = .running → P .closed t → P .between (t.takeBoundary fig)

namespace KeptThroughSets

variable {A : Aside → Prop} {P : Place → State → Prop} (k : KeptThroughSets A P) {s : State}
include k

theorem asides (p : Place) (xs : List Aside) (may : ∀ x ∈ xs, A x) (h : P p s) : P p (xs.foldl State.takeAside s) := by
  induction xs generalizing s with
  | nil => exact h
  | cons x xs ih =>
    rw [List.forall_mem_cons] at may
    exact ih may.2 (k.aside p s x may.1 h)

/-- R155, R168: at a place the handling goes on in a part that runs, or has been abandoned. -/
theorem pause (p : Place) {xs : List Aside} {go : State → State} (may : ∀ x ∈ xs, A x) (running : s.phase = .running)
    (h : P p s) (goes : ∀ t : State, t.phase = .running → P p t → P .between (go t)) : P .between (s.pause xs go) := by
  have taken := k.asides p xs may h
  simp only [State.pause]
  split
  · next same => exact goes _ (same.trans running) taken
  · next other => exact k.abandoned p _ (running ▸ other) taken

theorem endCycle {xs : List Aside} (may : ∀ x ∈ xs, A x) (running : s.phase = .running) (h : P (.handled true) s) :
    P .between (s.endCycle xs) :=
  k.pause .closed may running (k.closeCycle s running h) fun t r ht => k.takeBoundary t _ r ht

variable {x : SetAsides} (may : Allowed A x)
include may

theorem sendSet {ends : Bool} (count : Nat) (out : Composed) (heldUsed : Bool) (running : s.phase = .running)
    (h : P (.handled ends) s) : P .between (s.sendSet x count out heldUsed ends) := by
  refine k.pause (.sending ends) may.framed running (k.sendC s ends _ running h) fun t rt ht => ?_
  refine k.pause (.handled ends) may.sent rt (k.leaveC t ends count ht) fun u ru hu => ?_
  cases ends with
  | false => exact k.done u hu
  | true => exact k.endCycle may.closed ru hu

theorem processSet (set : ReleasedSet) (heldUsed : Bool) (running : s.phase = .running) (h : P (.updated set) s) :
    P .between (s.processSet x set heldUsed) := by
  simp only [State.processSet]
  refine k.pause (.handled _) may.tracked running (k.track s set running h) fun t rt ht => ?_
  refine k.pause (.handled _) may.fed rt (k.feedWindows t _ _ _ ht) fun u ru hu => ?_
  exact k.pause (.handled _) may.composed ru (k.compose u _ _ _ hu) fun v rv hv => k.sendSet may _ _ _ rv hv

theorem handOn (set : ReleasedSet) (running : s.phase = .running) (h : P (.formed set) s) :
    P .between (s.handOn x set) := by
  refine k.pause (.updated set) may.updated ((SameOutside.intakeRelease s set).phase.trans running)
    (k.intakeRelease s set running h) fun t rt ht => ?_
  exact k.pause (.updated set) may.noted rt (k.noteReleased t set ht) fun u ru hu => k.processSet may set _ ru hu

/-- R29: one set of the cascade, from the release check passed to the end of its handling. -/
theorem releaseSet (running : s.phase = .running) (synced : s.ring.synced = true) (h : P .between s) :
    P .between (s.pause x.checked fun t => t.releaseSet x) := by
  refine k.pause .checked may.checked running (k.check s synced h) fun t rt ht => ?_
  simp only [State.releaseSet]
  exact k.pause (.formed (formSet t.bank t.ring)) may.formed rt (k.noteSet t rt ht) fun u ru hu => k.handOn may _ ru hu

end KeptThroughSets

/-! ### A part that does not run has an UNSYNCED ring (R39, R168) -/

/-- R39, R168: the ring is UNSYNCED in a part that is held or self-testing. -/
def State.RingIdle (s : State) : Prop := s.phase ≠ .running → s.ring.synced = false

theorem Leaves.ringIdle {ps : List Part} {s t : State} (l : Leaves ps s t) (phase : .phase ∉ ps) (ring : .ring ∉ ps)
    (h : s.RingIdle) : t.RingIdle := by
  intro held
  rw [l .ring ring]
  exact h (l .phase phase ▸ held)

/-- What keeps the phase of a running part keeps it. -/
theorem State.ringIdle_of_phase {s t : State} (running : s.phase = .running) (same : t.phase = s.phase) : t.RingIdle :=
  fun held => absurd (same.trans running) held

theorem supplyStart_ringIdle (s : State) : s.supplyStart.RingIdle := fun _ => rfl

theorem driveReset_ringIdle {s : State} (h : s.RingIdle) : s.driveReset.RingIdle := by
  unfold State.driveReset
  split <;> first | exact h | exact fun _ => rfl

theorem RequestCode.handles_phase (c : RequestCode) : .phase ∉ c.handles := by cases c <;> decide

theorem State.ringIdle_keptByInputs : KeptByInputs State.RingIdle where
  handle t c r rest head _ _ := by
    refine State.ringIdle_of_phase head.running (close_leaves t r (handlerOf_leaves t c r) .phase ?_)
    simp [c.handles_phase]
  answer t r _ p _ _ := (answer_leaves t r p).ringIdle (by decide) (by decide)
  straps t _ := (setPins_leaves t _).ringIdle (by decide) (by decide)
  receiveM t frame _ := (receiveM_leaves t frame).ringIdle (by decide) (by decide)
  receiveC t frame _ := (receiveC_leaves t frame).ringIdle (by decide) (by decide)
  edge t high := (edge_leaves t high).ringIdle (by decide) (by decide)
  loseSignal t link mid _ := (loseSignal_leaves t link mid).ringIdle (by decide) (by decide)
  regainSync t link _ := (regainSync_leaves t link).ringIdle (by decide) (by decide)
  finishClone t r _ _ := (finishClone_leaves t r).ringIdle (by decide) (by decide)
  finishCommit t r _ service _ :=
    State.ringIdle_of_phase service.running ((finishCommit_leaves t r) .phase (by decide))
  completeAudit t _ := (completeAudit_leaves t).ringIdle (by decide) (by decide)
  endPulse t _ := (endPulse_leaves t).ringIdle (by decide) (by decide)

theorem State.ringIdle_keptThroughSets : KeptThroughSets (fun _ => True) fun _ => State.RingIdle where
  aside _ t x _ h :=
    State.ringIdle_keptByInputs.aside x (fun _ => supplyStart_ringIdle t) (fun _ => driveReset_ringIdle h) h
  abandoned _ _ _ h := h
  check _ _ h := h
  noteSet _ _ h := h
  intakeRelease t set _ := (intakeRelease_leaves t set).ringIdle (by decide) (by decide)
  noteReleased _ _ h := h
  track _ _ _ h := h
  feedWindows _ _ _ _ h := h
  compose _ _ _ _ h := h
  sendC _ _ _ _ h := h
  leaveC _ _ _ h := h
  done _ h := h
  closeCycle _ _ h := h
  takeBoundary t fig running _ := State.ringIdle_of_phase running (SameOutside.takeBoundary t fig).phase

/-- R29, R168: a set after whose handling the ring is SYNCED has not been abandoned. -/
theorem State.running_of_synced {s : State} (x : SetAsides) (running : s.phase = .running)
    (synced : s.ring.synced = true)
    (still : (s.pause x.checked fun t => t.releaseSet x).ring.synced = true) :
    (s.pause x.checked fun t => t.releaseSet x).phase = .running := by
  have idle := State.ringIdle_keptThroughSets.releaseSet (x := x) (Allowed.of_all fun _ _ => trivial) running synced
    (State.ringIdle_of_phase running rfl)
  by_contra held
  exact Bool.false_ne_true ((idle held).symm.trans still)

/-! ### An arrival -/

/-- What is kept besides by the ring's own steps and the counts of an arrival, for what depends on the ring at most by
its being SYNCED. -/
structure KeptByArrivals (A : Aside → Prop) (P : Place → State → Prop) : Prop extends KeptThroughSets A P where
  ring : ∀ (t : State) (r : Ring), (t.ring.synced = true → r.synced = true) → P .between t → P .between (t.setRing r)
  countDuplicate : ∀ t : State, P .between t → P .between t.countDuplicate
  countLate : ∀ t : State, P .between t → P .between t.countLate
  countResync : ∀ t : State, P .between t → P .between t.countResync
  countHealth : ∀ (t : State) (a : Attribute) (n : Nat), P .between t → P .between (t.countHealth a n)
  record : ∀ (t : State) (body : EventBody), P .between t → P .between (t.record body)

/-- Nothing falls inside the sets an operand has none left for (log 10). -/
theorem Allowed.headD {A : Aside → Prop} {sets : List SetAsides} (may : ∀ x ∈ sets, Allowed A x) :
    Allowed A (sets.headD {}) := by
  cases sets with
  | nil => exact Allowed.of_all (by simp [SetAsides.all])
  | cons x rest => exact may x List.mem_cons_self

theorem Allowed.of_sets {A : Aside → Prop} {sets : List SetAsides} (may : ∀ y ∈ sets.flatMap SetAsides.all, A y) :
    ∀ x ∈ sets, Allowed A x :=
  fun x mem => Allowed.of_all fun y hy => may y (List.mem_flatMap.2 ⟨x, mem, hy⟩)

namespace KeptByArrivals

variable {A : Aside → Prop} {P : Place → State → Prop} (k : KeptByArrivals A P) {s : State}
include k

/-- R29, R30: the cascade, set by set, until no set is released or the arrival is abandoned. -/
theorem cascade (fuel : Nat) {sets : List SetAsides} (d : Option Nat) (may : ∀ x ∈ sets, Allowed A x)
    (running : s.phase = .running) (h : P .between s) : P .between (s.cascade fuel sets d) := by
  induction fuel generalizing sets d s with
  | zero => exact h
  | succ fuel ih =>
    simp only [State.cascade]
    split
    · next release =>
      have synced : s.ring.synced = true := by
        simp only [State.releaseCheck, Bool.and_eq_true] at release; exact release.1
      have released := k.releaseSet (Allowed.headD may) running synced h
      have runs := State.running_of_synced (sets.headD {}) running synced
      revert released runs
      generalize (s.pause (sets.headD {}).checked fun t => t.releaseSet (sets.headD {})) = t
      intro released runs
      split
      · next still =>
        exact ih _ (fun x mem => may x (List.mem_of_mem_tail mem)) (runs still) (k.ring t _ (fun _ => still) released)
      · exact released
    · exact h

/-- R20 to R24, R30: the oldest waiting arrival taken, with all that falls inside. -/
theorem takeNext {sets : List SetAsides} (may : ∀ y ∈ sets.flatMap SetAsides.all, A y) (running : s.phase = .running)
    (h : P .between s) : P .between (s.takeNext sets) := by
  have allowed := Allowed.of_sets may
  unfold State.takeNext
  split
  · exact h
  · next a rest _ =>
    have took := k.ring s { s.ring with waiting := rest } id h
    have tookRuns : (s.setRing { s.ring with waiting := rest }).phase = .running := running
    generalize s.setRing { s.ring with waiting := rest } = t at took tookRuns
    obtain ⟨-, eq⟩ | ⟨-, _, eq⟩ | ⟨-, -, -, eq⟩ | ⟨-, -, -, eq⟩ := t.takeArrival_cases sets a
    · rw [eq]
      exact k.cascade 16 _ allowed tookRuns (k.ring t _ (fun _ => rfl) took)
    · rw [eq]
      unfold State.arriveInside
      split
      · exact k.countHealth _ _ _ (k.countDuplicate t took)
      · exact k.cascade 16 _ allowed tookRuns (k.ring t _ id took)
    · rw [eq]
      exact k.cascade 16 _ allowed tookRuns
        (k.record _ _ (k.countHealth _ _ _ (k.countResync _ (k.ring t _ (fun _ => rfl) took))))
    · rw [eq]
      exact k.countHealth _ _ _ (k.countLate t took)

end KeptByArrivals

/-! ### A step -/

/-- What every command keeps: each input, the resets and the arrival (log 4: a step takes the command at the front). -/
structure KeptByCommands (P : State → Prop) : Prop extends KeptByInputs P where
  queue : ∀ (t : State) (rest : List Instr), P t → P { t with pending := rest }
  supplyStart : ∀ t : State, P t → P t.supplyStart
  driveReset : ∀ t : State, P t → P t.driveReset
  holdEnds : ∀ (t : State) (cause : HoldEnd) (straps : BitVec 6), P t → P (t.holdEnds cause straps)
  endSelfTest : ∀ t : State, P t → P t.endSelfTest
  finishSoftReset : ∀ (t : State) (r : Request) (rest : List Request), InService t .softReset r rest → P t →
    P (finishSoftReset t r)
  takeNext : ∀ (t : State) (sets : List SetAsides), t.phase = .running → P t → P (t.takeNext sets)

theorem KeptByCommands.step {P : State → Prop} (k : KeptByCommands P) {s t : State} (h : P s)
    (run : step s = .next t) : P t := by
  unfold Machine.step at run
  split at run
  · cases run; exact h
  · next c rest _ =>
    have h := k.queue s rest h
    exact k.exec c run h (fun _ => k.supplyStart _ h) (fun _ => k.driveReset _ h)
      (fun cause straps _ => k.holdEnds _ cause straps h) (fun _ => k.endSelfTest _ h)
      (fun r rest _ service => k.finishSoftReset _ r rest service h) fun sets _ running => k.takeNext _ sets running h

end Sys2Proof.Machine

/-! The event unit keeps its form: at most 16 records, and the line as the attention mode says (R175, R178, R179). -/

namespace Sys2Proof.Machine

/-! ### Records entering (R175) -/

/-- What a mode says of an event unit; a state's own mode and event unit make it `State.EventInv`. -/
def EventUnit.Ok (mode : AttentionMode) (e : EventUnit) : Prop :=
  e.queue.length ≤ 16 ∧ (mode = .latched → e.line = !e.queue.isEmpty ∧ e.pulse = none)
    ∧ (mode = .pulsed → e.line = e.pulse.isSome)

theorem EventUnit.Ok.take {mode : AttentionMode} {e : EventUnit} (h : e.Ok mode) (r : EventRecord) :
    (e.take mode r).Ok mode := by
  obtain ⟨length, latched, pulsed⟩ := h
  by_cases room : e.queue.length < 16
  · rw [EventUnit.take_of_room room]
    refine ⟨by simp; omega, fun m => ?_, fun m => by simp [m]⟩
    obtain ⟨-, pulse⟩ := latched m
    simp [m, pulse]
  · rw [EventUnit.take_of_full (by omega)]
    exact ⟨length, latched, pulsed⟩

theorem EventUnit.Ok.foldl {mode : AttentionMode} {e : EventUnit} (h : e.Ok mode) (recs : List EventRecord) :
    (recs.foldl (EventUnit.take mode) e).Ok mode := by
  induction recs generalizing e with
  | nil => exact h
  | cons r recs ih => exact ih (h.take r)

section
variable {s t : State}

theorem deliver_eventInv (g : List (List Offer)) (h : s.EventInv) : (s.deliver g).EventInv :=
  EventUnit.Ok.foldl (e := s.events) h _

theorem Leaves.eventInv {ps : List Part} (l : Leaves ps s t) (events : .events ∉ ps) (attention : .attention ∉ ps)
    (h : s.EventInv) : t.EventInv := by
  have e : t.events = s.events := l .events events
  have a : t.engine.attention = s.engine.attention := l .attention attention
  rw [State.EventInv, e, a]
  exact h

/-! ### Services of requests -/

theorem close_eventInv {h : Handled} (r : Request) (kept : h.state.EventInv) : (h.close r).EventInv := by
  unfold Handled.close
  split
  · exact (answer_leaves _ _ _).eventInv (by decide) (by decide) kept
  · exact kept

/-- R177: records leave the queue, and in LATCHED mode the line follows it. -/
theorem EventUnit.Ok.removeOldest {mode : AttentionMode} {e : EventUnit} (h : e.Ok mode) (n : Nat) :
    (e.removeOldest mode n).Ok mode := by
  obtain ⟨length, latched, pulsed⟩ := h
  refine ⟨?_, fun m => ⟨?_, (latched m).2⟩, fun m => ?_⟩
  · simp only [EventUnit.removeOldest, List.length_drop]; omega
  · simp [EventUnit.removeOldest, m]
  · simpa [EventUnit.removeOldest, m] using pulsed m

/-- R180: into LATCHED the line follows the queue; into PULSED the line is low and no pulse runs. -/
theorem EventUnit.Ok.changeMode {old new : AttentionMode} {e : EventUnit} (h : e.Ok old) (other : new ≠ old) :
    (e.changeMode new).Ok new := by
  obtain ⟨length, latched, -⟩ := h
  cases new with
  | latched => exact ⟨length, fun _ => ⟨rfl, rfl⟩, fun m => by cases m⟩
  | pulsed =>
    cases old with
    | latched =>
      have pulse : e.pulse = none := (latched rfl).2
      exact ⟨length, nofun, fun _ => by simp [EventUnit.changeMode, pulse]⟩
    | pulsed => exact absurd rfl other

theorem handlerOf_eventInv (c : RequestCode) (r : Request) (h : s.EventInv) : (handlerOf c s r).state.EventInv := by
  have frame (events : .events ∉ c.handles) (attention : .attention ∉ c.handles) : (handlerOf c s r).state.EventInv :=
    (handlerOf_leaves s c r).eventInv events attention h
  cases c with
  | readEvents =>
    simp only [handlerOf, handleReadEvents]
    split <;> [exact h; exact EventUnit.Ok.removeOldest h _]
  | wake => exact deliver_eventInv (s := s.setSupervision s.supervision.wake) _ h
  | inject => exact deliver_eventInv (s := s.setComposer _) _ h
  | injectClear =>
    simp only [handlerOf, handleInjectClear]
    split <;> [exact deliver_eventInv (s := s.setComposer _) _ h; exact h]
  | setThreshold =>
    simp only [handlerOf, handleSetThreshold]
    split <;> [exact deliver_eventInv (s := s.setHealth _) _ h; exact h]
  | setAttentionMode =>
    simp only [handlerOf, handleSetAttentionMode]
    split
    · exact h
    · next m _ =>
      split
      · exact h
      · next other => exact EventUnit.Ok.changeMode (old := s.engine.attention) h other
  | unlock =>
    simp only [handlerOf, handleUnlock]
    split <;> [exact h; split <;> [exact h; split <;> [exact h; skip]]]
    simp only [State.handled]
    split <;> [exact deliver_eventInv (s := s.setEngine _) _ h; exact h]
  | _ => exact frame (by decide) (by decide)

/-! ### Swaps and resets -/

theorem setEvents_eventInv {e : EventUnit} (n : Nat) (h : e.Ok s.engine.attention) : (s.setEvents e n).EventInv := h

theorem swapAtOnce_eventInv (d : Word) (h : s.EventInv) : (s.swapAtOnce d).EventInv :=
  deliver_eventInv _ (deliver_eventInv _ ((swapped_leaves s d).eventInv (by decide) (by decide) h))

theorem finishCommit_eventInv (r : Request) (h : s.EventInv) : (finishCommit s r).EventInv := by
  obtain ⟨x, p, ⟨eq, -⟩ | ⟨d, -, -, eq⟩⟩ := finishCommit_cases s r
  · exact eq ▸ (commitAnswered_leaves s r x p).eventInv (by decide) (by decide) h
  · exact eq ▸ swapAtOnce_eventInv d ((commitAnswered_leaves s r x p).eventInv (by decide) (by decide) h)

/-- R181: in the hold the event unit is empty, its line low. -/
theorem hold_eventInv (s : State) (phase : RunPhase) : (s.hold phase).EventInv :=
  ⟨Nat.zero_le _, fun _ => ⟨rfl, rfl⟩, fun m => by cases m⟩

theorem driveReset_eventInv (h : s.EventInv) : s.driveReset.EventInv := by
  unfold State.driveReset
  split <;> first | exact h | exact hold_eventInv _ _

theorem endReset_eventInv (kind : ResetKind) (result : SelfTestResult) (h : s.EventInv) :
    (s.endReset kind result).EventInv :=
  deliver_eventInv (s := { s with phase := .running, intake := _, transform := _, linkC := _ }) _ h

theorem holdEnds_eventInv (cause : HoldEnd) (straps : BitVec 6) (h : s.EventInv) :
    (s.holdEnds cause straps).EventInv := by
  cases cause with
  | supplyReached => simp only [State.holdEnds, State.supplyReached]; split <;> exact h
  | resetLineHigh =>
    simp only [State.holdEnds, State.resetReleased]
    split <;> [exact h; exact endReset_eventInv _ _ h; exact h]

theorem endSelfTest_eventInv (h : s.EventInv) : s.endSelfTest.EventInv := by
  unfold State.endSelfTest
  split
  · simp only [State.powerOnTest]; split <;> [exact endReset_eventInv _ _ h; exact h]
  · simp only [State.hardTest]; split <;> exact endReset_eventInv _ _ h
  · exact h

/-! ### Every command -/

theorem eventInv_keptByInputs : KeptByInputs State.EventInv where
  handle _ c r _ _ _ h := close_eventInv r (handlerOf_eventInv c r h)
  answer t r _ p _ _ h := (answer_leaves t r p).eventInv (by decide) (by decide) h
  straps _ _ h := h
  receiveM t frame _ := (receiveM_leaves t frame).eventInv (by decide) (by decide)
  receiveC t frame _ h := by
    unfold State.receiveC
    split
    · split <;> [exact deliver_eventInv (s := t.setLinkC _) _ h; exact h]
    · exact h
  edge t high h := by
    unfold State.edge State.whenRunning
    split <;> [exact deliver_eventInv (s := (t.setPins _).setLinkC _) _ h; exact h]
  loseSignal t link mid _ h := by
    have counted (c : Bool) : (if c then t.countMalformed else t).EventInv := by split <;> exact h
    cases link with
    | m =>
      exact deliver_eventInv (s := { (if mid && t.linkMSynced then t.countMalformed else t) with linkMSynced := false })
        _ (counted _)
    | c =>
      exact deliver_eventInv (s := (if mid && t.linkC.synced then t.countMalformed else t).setLinkC _) _ (counted _)
  regainSync t link _ h := by
    cases link with
    | m =>
      simp only [State.regainSync]
      split <;> [exact h; exact deliver_eventInv (s := { t with linkMSynced := true }) _ h]
    | c => simp only [State.regainSync]; split <;> [exact h; exact deliver_eventInv (s := t.setLinkC _) _ h]
  finishClone t r _ _ := (finishClone_leaves t r).eventInv (by decide) (by decide)
  finishCommit _ r _ _ := finishCommit_eventInv r
  completeAudit t _ h := by
    unfold State.completeAudit
    split <;> [exact deliver_eventInv (s := t.setStore _) _ h; exact h]
  endPulse t _ h := by
    unfold State.endPulse
    split
    · next pulsed =>
      refine ⟨h.1, fun m => ?_, fun _ => rfl⟩
      exact absurd (pulsed.1.symm.trans m) (by decide)
    · exact h

theorem eventInv_keptByArrivals : KeptByArrivals (fun _ => True) fun _ => State.EventInv where
  aside _ t x _ h :=
    eventInv_keptByInputs.aside x (fun _ => hold_eventInv _ _) (fun _ => driveReset_eventInv h) h
  abandoned _ _ _ h := h
  check _ _ h := h
  noteSet t _ h := h
  intakeRelease t set _ h := by
    obtain ⟨g, eq⟩ := t.intakeRelease_eq_deliver set
    exact eq ▸ deliver_eventInv g ((intakeUpdated_leaves t set).eventInv (by decide) (by decide) h)
  noteReleased _ _ h := h
  track t set _ h := deliver_eventInv (s := t.setTracker _) _ h
  feedWindows _ _ _ _ h := h
  compose t _ _ _ h := deliver_eventInv (s := (t.setComposer _).setHealth _) _ h
  sendC _ _ _ _ h := h
  leaveC t _ _ h := deliver_eventInv (s := t.leaveC.setLinkC _) _ h
  done _ h := h
  closeCycle t _ h := deliver_eventInv (s := t.setTracker _) _ h
  takeBoundary t fig _ h := by
    refine takeBoundary_keeps (fun t g => deliver_eventInv g) (fun _ _ h => h) (fun _ h => h)
      (fun t d _ => (swapped_leaves t d).eventInv (by decide) (by decide)) (fun t fig e o h => ?_) fig h
    rw [State.boundaryBlocks_eq]
    exact deliver_eventInv _ h
  ring _ _ _ h := h
  countDuplicate _ h := h
  countLate _ h := h
  countResync _ h := h
  countHealth _ _ _ h := h
  record _ _ h := deliver_eventInv _ h

theorem eventInv_keptByCommands : KeptByCommands State.EventInv where
  toKeptByInputs := eventInv_keptByInputs
  queue _ _ h := h
  supplyStart _ _ := hold_eventInv _ _
  driveReset _ := driveReset_eventInv
  holdEnds _ cause straps := holdEnds_eventInv cause straps
  endSelfTest _ := endSelfTest_eventInv
  finishSoftReset t r _ _ h :=
    (answer_leaves _ r _).eventInv (by decide) (by decide) (deliver_eventInv (s := t.softBlocks) _ h)
  takeNext _ _ running := eventInv_keptByArrivals.takeNext (fun _ _ => trivial) running

end

/-- Settles O59: records enter through `EventUnit.take`; READ_EVENTS, a change of mode, the end of a pulse and the
resets are the only other hands on the event unit. -/
theorem eventUnitKeepsItsForm : Obligations.EventUnitKeepsItsForm := fun _ _ h run => eventInv_keptByCommands.step h run

end Sys2Proof.Machine

/-! Each window keeps the length in force and sums that are those of its entries (R56, R61, R65 to R70). -/

namespace Sys2Proof.Machine

/-! ### A ring and a window -/

theorem WindowRing.cleared_ok (w : Nat) : (WindowRing.cleared w).Ok w := by
  refine ⟨List.length_replicate, fun x mem => ?_, ?_⟩
  · rw [List.eq_of_mem_replicate mem]; decide
  · simp [WindowRing.cleared]

theorem Window.cleared_ok (w : Nat) : (Window.cleared w).Ok w :=
  have ring := WindowRing.cleared_ok w
  ⟨ring, ring, ring, ring, Nat.zero_le w⟩

/-- R61: the oldest entry leaves entries and sum alike, the new value enters both. -/
theorem WindowRing.Ok.feed {w : Nat} {r : WindowRing} {v : Iu} (positive : 0 < w) (h : r.Ok w) (inIu : InIu v) :
    (r.feed v).Ok w := by
  obtain ⟨length, entries, sum⟩ := h
  unfold WindowRing.feed
  obtain ⟨oldest, rest, eq⟩ := List.exists_cons_of_length_pos (length ▸ positive)
  rw [eq] at length entries sum ⊢
  refine ⟨by simpa using length, fun x mem => ?_, ?_⟩
  · obtain old | new := List.mem_append.1 mem
    · exact entries x (List.mem_of_mem_tail old)
    · exact List.mem_singleton.1 new ▸ inIu
  · simp only [sum, List.headD_cons, List.tail_cons, List.sum_cons, List.sum_append, List.sum_nil]
    ring

/-- R58 to R61: a window fed with values, or left alone, keeps its form. -/
theorem Window.Ok.onSet {w : Nat} {win : Window} (positive : 0 < w) (h : win.Ok w) (sn cs : Iu)
    (values : Option Phases) : (win.onSet w sn cs values).Ok w := by
  cases values with
  | none => exact h
  | some v =>
    obtain ⟨idPos, iqPos, idNeg, iqNeg, fill⟩ := h
    refine ⟨idPos.feed positive (saturate_inIu _), iqPos.feed positive (saturate_inIu _),
      idNeg.feed positive (saturate_inIu _), iqNeg.feed positive (saturate_inIu _), ?_⟩
    simp only [Window.onSet, Window.feed]
    split <;> omega

/-! ### The transform unit -/

theorem State.windowInv_reads : Reads [.phase, .bank, .transform] State.WindowInv := by
  intro s t same h
  have phase : t.phase = s.phase := same .phase (by decide)
  have bank : t.bank = s.bank := same .bank (by decide)
  have transform : t.transform = s.transform := same .transform (by decide)
  rw [State.WindowInv, phase, bank, transform]
  exact h

/-- The windows of a transform unit at its own length, which is one of the two (R56). -/
abbrev Transform.Ok (x : Transform) : Prop := (x.length = 32 ∨ x.length = 64) ∧ ∀ n : Fin 6, (x.windows[n]).Ok x.length

theorem Transform.Ok.pos {x : Transform} (h : x.Ok) : 0 < x.length := by have := h.1; omega

theorem Transform.afterReset_ok (b : Bank) : (Transform.afterReset b).Ok := by
  refine ⟨b.windowLength_cases, fun n => ?_⟩
  simpa [Transform.afterReset] using Window.cleared_ok b.windowLength

section
variable {s : State}

theorem State.WindowInv.ok (h : s.WindowInv) : s.transform.Ok := ⟨h.1, h.2.2⟩

theorem State.windowInv_of {t : State} (ok : t.transform.Ok)
    (length : t.phase = .running → t.transform.length = t.bank.windowLength) : t.WindowInv := ⟨ok.1, length, ok.2⟩

/-- R66: clearing windows keeps the length in force. -/
theorem clearWindows_transform (ns : List (Fin 6)) (h : s.transform.Ok) :
    (s.clearWindows ns).transform.length = s.transform.length ∧ (s.clearWindows ns).transform.Ok := by
  induction ns generalizing s with
  | nil => exact ⟨rfl, h⟩
  | cons n ns ih =>
    have one : (s.clearWindow n).transform.Ok := by
      refine ⟨h.1, fun m => ?_⟩
      simp only [State.clearWindow, State.setTransform_transform, Fin.getElem_fin, Vector.getElem_set]
      split
      · exact Window.cleared_ok _
      · exact h.2 m
    exact ih one

theorem intakeRelease_windowInv (set : ReleasedSet) (h : s.WindowInv) : (s.intakeRelease set).WindowInv := by
  have cleared := clearWindows_transform
    (s := s.setIntake (s.intake.withSources s.bank (nextSources s.bank set s.intake.sources)))
    (lostFeeders s.bank s.intake.sources (nextSources s.bank set s.intake.sources)) h.ok
  have frame := intakeRelease_leaves s set
  have phase : (s.intakeRelease set).phase = s.phase := frame .phase (by decide)
  have bank : (s.intakeRelease set).bank = s.bank := frame .bank (by decide)
  refine State.windowInv_of cleared.2 fun running => ?_
  rw [bank]
  exact cleared.1.trans (h.2.1 (phase ▸ running))

theorem feedWindows_windowInv (i : Nat) (v : Vector (Option Phases) 6) (h : s.WindowInv) :
    (s.feedWindows i v).WindowInv := by
  refine State.windowInv_of ⟨h.1, fun n => ?_⟩ h.2.1
  rw [State.feedWindows_window]
  exact (h.2.2 n).onSet h.ok.pos _ _ _

/-- R67, R68: at a swap a window is cleared at the new length, or kept where the length is the old one. -/
theorem swapped_windowInv (d : Word) (running : s.phase = .running) (h : s.WindowInv) : (s.swapped d).WindowInv := by
  obtain ⟨-, length, windows⟩ := h
  refine State.windowInv_of ⟨Bank.windowLength_cases _, fun n => ?_⟩ fun _ => rfl
  simp only [State.swapped_transform, Transform.onSwap, Fin.getElem_fin, Vector.getElem_ofFn]
  split
  · exact Window.cleared_ok _
  · next kept =>
    have same : (s.store.swap d).activeBank.windowLength = s.transform.length := by
      simp only [windowCleared, Bool.or_eq_true, not_or, bne_iff_ne, not_not] at kept
      rw [length running, Bank.windowLength, Bank.windowLength, kept.1.2]
    have window := windows n
    rwa [← same] at window

/-! ### Resets -/

theorem hold_windowInv (s : State) {phase : RunPhase} (held : phase ≠ .running) : (s.hold phase).WindowInv :=
  State.windowInv_of (Transform.afterReset_ok _) fun running => absurd running held

theorem driveReset_windowInv (h : s.WindowInv) : s.driveReset.WindowInv := by
  unfold State.driveReset
  split <;> first | exact h | exact hold_windowInv _ (by decide)

theorem endReset_windowInv (s : State) (kind : ResetKind) (result : SelfTestResult) :
    (s.endReset kind result).WindowInv :=
  State.windowInv_of (Transform.afterReset_ok _) fun _ => rfl

/-- A part that does not run needs of its windows only their own form. -/
theorem State.windowInv_of_held {t : State} (h : s.WindowInv) (same : t.transform = s.transform)
    (held : t.phase ≠ .running) : t.WindowInv :=
  State.windowInv_of (same ▸ h.ok) fun running => absurd running held

theorem holdEnds_windowInv (cause : HoldEnd) (straps : BitVec 6) (h : s.WindowInv) :
    (s.holdEnds cause straps).WindowInv := by
  cases cause with
  | supplyReached =>
    simp only [State.holdEnds, State.supplyReached]
    split <;> [exact State.windowInv_of_held h rfl nofun; exact h]
  | resetLineHigh =>
    simp only [State.holdEnds, State.resetReleased]
    split <;> [exact State.windowInv_of_held h rfl nofun; exact endReset_windowInv _ _ _; exact h]

theorem endSelfTest_windowInv (h : s.WindowInv) : s.endSelfTest.WindowInv := by
  unfold State.endSelfTest
  split
  · unfold State.powerOnTest
    generalize TableStore.initialised = initial
    simp only
    split <;> [exact endReset_windowInv _ _ _; exact State.windowInv_of_held h rfl (by simp)]
  · simp only [State.hardTest]
    split <;> exact endReset_windowInv _ _ _
  · exact h

theorem finishSoftReset_windowInv (s : State) (r : Request) : (finishSoftReset s r).WindowInv := by
  have blocks : s.softBlocks.WindowInv := State.windowInv_of (Transform.afterReset_ok _) fun _ => rfl
  exact State.windowInv_reads.after ((deliver_leaves _ _).andThen (answer_leaves _ r _)) (by decide) blocks

/-! ### Every command -/

theorem takeBoundary_windowInv (fig : ArcFigures) (running : s.phase = .running) (h : s.WindowInv) :
    (s.takeBoundary fig).WindowInv := by
  have reads := State.windowInv_reads
  refine (takeBoundary_keeps (P := fun t => t.phase = .running ∧ t.WindowInv) (fun _ _ h => h) (fun _ _ h => h)
    (fun _ h => h) (fun t d _ h => ⟨t.swapped_phase d |>.trans h.1, swapped_windowInv d h.1 h.2⟩)
    (fun t fig e o h => ?_) fig ⟨running, h⟩).2
  have frame := boundaryBlocks_leaves t fig e o
  exact ⟨(frame .phase (by decide)).trans h.1, reads.after frame (by decide) h.2⟩

theorem windowInv_keptByInputs : KeptByInputs State.WindowInv :=
  .of_reads State.windowInv_reads (by decide) fun _ d running => swapped_windowInv d running

theorem windowInv_keptByArrivals : KeptByArrivals (fun _ => True) fun _ => State.WindowInv where
  aside _ t x _ h :=
    windowInv_keptByInputs.aside x (fun _ => hold_windowInv _ (by decide)) (fun _ => driveReset_windowInv h) h
  abandoned _ _ _ h := h
  check _ _ h := h
  noteSet _ _ h := h
  intakeRelease _ set _ := intakeRelease_windowInv set
  noteReleased _ _ h := h
  track _ _ _ h := h
  feedWindows _ _ i v := feedWindows_windowInv i v
  compose _ _ _ _ h := h
  sendC _ _ _ _ h := h
  leaveC _ _ _ h := h
  done _ h := h
  closeCycle _ _ h := h
  takeBoundary _ fig := takeBoundary_windowInv fig
  ring _ _ _ h := h
  countDuplicate _ h := h
  countLate _ h := h
  countResync _ h := h
  countHealth _ _ _ h := h
  record _ _ h := h

theorem windowInv_keptByCommands : KeptByCommands State.WindowInv where
  toKeptByInputs := windowInv_keptByInputs
  queue _ _ h := h
  supplyStart _ _ := hold_windowInv _ (by decide)
  driveReset _ := driveReset_windowInv
  holdEnds _ cause straps := holdEnds_windowInv cause straps
  endSelfTest _ := endSelfTest_windowInv
  finishSoftReset t r _ _ _ := finishSoftReset_windowInv t r
  takeNext _ _ running := windowInv_keptByArrivals.takeNext (fun _ _ => trivial) running

end

/-- Settles O22: feeding keeps each sum, clearing starts it again, and a swap keeps a window only at the old length. -/
theorem windowSumsAreTheirEntries : Obligations.WindowSumsAreTheirEntries := fun _ _ h run =>
  windowInv_keptByCommands.step h run

end Sys2Proof.Machine

/-! A source record of a bank as the blocks read it: the stored record, not enabled where a record of lower index as
read conflicts with it (R130, log 14). -/

namespace Sys2Proof.Machine

/-- R130: one record as read behind the records of lower index as read. -/
def SourceRecord.readBelow (r : SourceRecord) (lower : List SourceRecord) : SourceRecord :=
  if r.conflictsBelow lower then { r with enabled := false } else r

theorem SourceRecord.readBelow_eq (r : SourceRecord) (lower : List SourceRecord) :
    r.readBelow lower =
      { r with enabled := r.enabled && !lower.any fun q => q.enabled && r.conflictsWith q } := by
  unfold readBelow conflictsBelow
  cases enabled : r.enabled with
  | false => simp [← enabled]
  | true => cases lower.any fun q => q.enabled && r.conflictsWith q <;> simp [← enabled]

theorem readInOrder_cons (lower : List SourceRecord) (r : SourceRecord) (rest : List SourceRecord) :
    readInOrder lower (r :: rest) = r.readBelow lower :: readInOrder (lower ++ [r.readBelow lower]) rest := rfl

theorem readInOrder_getElem (lower rs : List SourceRecord) (i : Nat) (h : i < rs.length) :
    (readInOrder lower rs)[i]'((readInOrder_length lower rs).symm ▸ h) =
      rs[i].readBelow (lower ++ (readInOrder lower rs).take i) := by
  induction rs generalizing lower i with
  | nil => simp at h
  | cons r rest ih =>
    cases i with
    | zero => simp [readInOrder_cons]
    | succ i =>
      have behind := ih (lower ++ [r.readBelow lower]) i (by simpa using h)
      simpa [readInOrder_cons] using behind

theorem Bank.source_eq_readBelow (b : Bank) (k : Fin 8) :
    b.source k = (b.storedSource k.val).readBelow (b.sources.take k.val) := by
  have length : k.val < b.storedSources.length := k.isLt
  have stored : b.storedSources[k.val] = b.storedSource k.val := by
    fin_cases k <;> rfl
  have read := readInOrder_getElem [] b.storedSources k.val length
  rw [stored, List.nil_append] at read
  exact (b.source_eq_getElem k).trans read

/-- R111: a hold limit is within 1..15. -/
theorem Bank.source_holdLimit_le (b : Bank) (k : Fin 8) : (b.source k).holdLimit ≤ 15 := by
  have field := bitField_lt 0 4 (wordAt b.sourceWords (4 * k.val + 3))
  rw [b.source_eq_readBelow, SourceRecord.readBelow_eq]
  simp only [Bank.storedSource, readSourceRecord]
  omega

end Sys2Proof.Machine

/-! Intake agrees with the active bank: counters and source states in range, a source DISABLED exactly where its
record is not enabled, and the voltage in use and FEEDER_SOURCE_LOST as the source states give them (R9 to R17). -/

namespace Sys2Proof.Machine

/-! ### Counters (R9) -/

theorem Counters.zero_inRange : Counters.zero.InRange := by
  refine ⟨Nat.zero_le _, Nat.zero_le _, Nat.zero_le _, Nat.zero_le _, Nat.zero_le _, Nat.zero_le _, fun k => ?_⟩
  simp [Counters.zero]

section
variable {s t : State}

theorem countMalformed_inRange (h : s.intake.counters.InRange) : s.countMalformed.intake.counters.InRange :=
  ⟨countUp_le _ _, h.2⟩

theorem countForeign_inRange (h : s.intake.counters.InRange) : s.countForeign.intake.counters.InRange :=
  ⟨h.1, countUp_le _ _, h.2.2⟩

theorem countDuplicate_inRange (h : s.intake.counters.InRange) : s.countDuplicate.intake.counters.InRange :=
  ⟨h.1, h.2.1, countUp_le _ _, h.2.2.2⟩

theorem countLate_inRange (h : s.intake.counters.InRange) : s.countLate.intake.counters.InRange :=
  ⟨h.1, h.2.1, h.2.2.1, countUp_le _ _, h.2.2.2.2⟩

theorem countHeld_inRange (n : Nat) (h : s.intake.counters.InRange) : (s.countHeld n).intake.counters.InRange :=
  ⟨h.1, h.2.1, h.2.2.1, h.2.2.2.1, countUp_le _ _, h.2.2.2.2.2⟩

theorem countResync_inRange (h : s.intake.counters.InRange) : s.countResync.intake.counters.InRange :=
  ⟨h.1, h.2.1, h.2.2.1, h.2.2.2.1, h.2.2.2.2.1, countUp_le _ _, h.2.2.2.2.2.2⟩

theorem countSaturations_inRange (k : Fin 8) (n : Nat) (h : s.intake.counters.InRange) :
    (s.countSaturations k n).intake.counters.InRange := by
  refine ⟨h.1, h.2.1, h.2.2.1, h.2.2.2.1, h.2.2.2.2.1, h.2.2.2.2.2.1, fun j => ?_⟩
  simp only [State.countSaturations, State.setIntake_intake, Fin.getElem_fin, Vector.getElem_set]
  split
  · exact countUp_le _ _
  · exact h.2.2.2.2.2.2 j

theorem receiveM_inRange (frame : List Word) (h : s.intake.counters.InRange) :
    (s.receiveM frame).intake.counters.InRange := by
  unfold State.receiveM
  split
  · split
    · exact countMalformed_inRange h
    · next f _ =>
      unfold State.intakeSample
      split
      · exact countMalformed_inRange h
      · split
        · exact countForeign_inRange h
        · exact countSaturations_inRange _ _ h
    · next r _ =>
      have same : (s.takeRequest r).intake.counters = s.intake.counters := takeRequest_leaves s r .counters (by decide)
      exact same ▸ h
  · exact h

theorem receiveC_inRange (frame : List Word) (h : s.intake.counters.InRange) :
    (s.receiveC frame).intake.counters.InRange := by
  unfold State.receiveC
  split
  · split
    · exact h
    · exact countMalformed_inRange h
  · exact h

theorem loseSignal_inRange (link : Link) (mid : Bool) (h : s.intake.counters.InRange) :
    (s.loseSignal link mid).intake.counters.InRange := by
  have counted (c : Bool) : (if c then s.countMalformed else s).intake.counters.InRange := by
    split <;> [exact countMalformed_inRange h; exact h]
  cases link <;> exact counted _

/-! ### Source states (R11, R16, R17) -/

theorem SourceStatus.initial_inRange (r : SourceRecord) : (SourceStatus.initial r).InRange :=
  ⟨Nat.zero_le _, Nat.zero_le _, fun _ => ⟨Nat.zero_le _, Nat.zero_le _⟩, fun _ => Nat.zero_le _⟩

theorem SourceStatus.initial_disabled_iff (r : SourceRecord) :
    (SourceStatus.initial r).state = .disabled ↔ r.enabled = false := by
  unfold SourceStatus.initial; cases r.enabled <;> simp

/-- R11: a source present in a set stays in its ranges, RECOVER_SETS being at most 255. -/
theorem SourceStatus.InRange.onPresent {x : SourceStatus} (h : x.InRange) {n : Nat} (limit : n ≤ 255) :
    (x.onPresent n).InRange := by
  obtain ⟨state, run, hold⟩ := x
  obtain ⟨runs, holds, recovering, active⟩ := h
  cases state <;> simp only [SourceStatus.onPresent]
  case recovering =>
    obtain ⟨run254, hold14⟩ := recovering rfl
    simp only at run254 hold14
    split
    · exact ⟨Nat.succ_le_succ run254, Nat.zero_le _, nofun, fun _ => Nat.zero_le _⟩
    · have short : run + 1 ≤ 254 := by omega
      exact ⟨Nat.succ_le_succ run254, holds, fun _ => ⟨short, hold14⟩, nofun⟩
  case disabled => exact ⟨runs, holds, nofun, nofun⟩
  case active => exact ⟨runs, Nat.zero_le _, nofun, fun _ => Nat.zero_le _⟩
  case lost => exact ⟨by decide, by decide, fun _ => by decide, nofun⟩

/-- R11: a source held in a set stays in its ranges, the hold limit being at most 15. -/
theorem SourceStatus.InRange.onHeld {x : SourceStatus} (h : x.InRange) {n : Nat} (limit : n ≤ 15) :
    (x.onHeld n).InRange := by
  obtain ⟨state, run, hold⟩ := x
  obtain ⟨runs, holds, recovering, active⟩ := h
  cases state <;> simp only [SourceStatus.onHeld]
  case recovering =>
    obtain ⟨run254, hold14⟩ := recovering rfl
    simp only at run254 hold14
    refine ⟨Nat.zero_le _, by simp only; omega, fun still => ?_, fun no => ?_⟩ <;> split at * <;> simp_all; omega
  case active =>
    have hold14 := active rfl
    simp only at hold14 runs
    refine ⟨runs, by simp only; omega, fun no => ?_, fun still => ?_⟩ <;> split at * <;> simp_all; omega
  case disabled => exact ⟨runs, holds, nofun, nofun⟩
  case lost => exact ⟨runs, holds, nofun, nofun⟩

theorem SourceStatus.onPresent_disabled_iff (x : SourceStatus) (n : Nat) :
    (x.onPresent n).state = .disabled ↔ x.state = .disabled := by
  obtain ⟨state, run, hold⟩ := x
  cases state <;> simp only [SourceStatus.onPresent]
  case recovering => split <;> simp
  case lost => simp

theorem SourceStatus.onHeld_disabled_iff (x : SourceStatus) (n : Nat) :
    (x.onHeld n).state = .disabled ↔ x.state = .disabled := by
  obtain ⟨state, run, hold⟩ := x
  cases state <;> simp only [SourceStatus.onHeld]
  case recovering => split <;> simp
  case active => split <;> simp

theorem nextStatus_inRange (b : Bank) (set : ReleasedSet) (k : Fin 8) {x : SourceStatus} (h : x.InRange) :
    (nextStatus b set k x).InRange := by
  have recover := b.count_mem .recoverSets (by decide)
  unfold nextStatus
  split
  · exact h
  · split
    · exact h.onPresent (by simp only [Param.hi] at recover; omega)
    · exact h.onHeld (b.source_holdLimit_le k)

theorem nextStatus_disabled_iff (b : Bank) (set : ReleasedSet) (k : Fin 8) (x : SourceStatus) :
    (nextStatus b set k x).state = .disabled ↔ x.state = .disabled := by
  unfold nextStatus
  split
  · exact Iff.rfl
  · split
    · exact x.onPresent_disabled_iff _
    · exact x.onHeld_disabled_iff _

theorem swapStatus_inRange (old new : SourceRecord) {x : SourceStatus} (h : x.InRange) :
    (swapStatus old new x).InRange := by
  unfold swapStatus
  split
  · split
    · exact h
    · exact ⟨by decide, by decide, fun _ => by decide, nofun⟩
  · exact ⟨by decide, by decide, nofun, nofun⟩

/-- R16: after a swap a source is DISABLED exactly where the new record is not enabled. -/
theorem swapStatus_disabled_iff {old new : SourceRecord} {x : SourceStatus}
    (h : x.state = .disabled ↔ old.enabled = false) :
    (swapStatus old new x).state = .disabled ↔ new.enabled = false := by
  unfold swapStatus
  cases enabled : new.enabled with
  | false => simp
  | true =>
    simp only [if_true, Bool.true_eq_false, iff_false]
    split
    · next kept =>
      rw [h]
      simp only [Bool.and_eq_true] at kept
      simp [kept.1]
    · simp

/-! ### The invariant and the parts it depends on -/

theorem intakeInv_of_counters {ps : List Part} (l : Leaves ps s t) (apart : ∀ p ∈ [Part.phase, .bank, .sources], p ∉ ps)
    (counters : t.intake.counters.InRange) (h : s.IntakeInv) : t.IntakeInv := by
  have phase : t.phase = s.phase := l .phase (apart _ (by decide))
  have bank : t.bank = s.bank := l .bank (apart _ (by decide))
  have intake : t.intake = { s.intake with counters := t.intake.counters } := l .sources (apart _ (by decide))
  refine ⟨counters, ?_⟩
  rw [phase, bank, intake]
  exact h.2

theorem intakeInv_reads : Reads [.phase, .bank, .sources, .counters] State.IntakeInv := by
  intro s t same h
  have phase : t.phase = s.phase := same .phase (by decide)
  have bank : t.bank = s.bank := same .bank (by decide)
  have counters : t.intake.counters = s.intake.counters := same .counters (by decide)
  have intake : t.intake = { s.intake with counters := t.intake.counters } := same .sources (by decide)
  have whole : t.intake = s.intake := by rw [intake, counters]
  rw [State.IntakeInv, phase, bank, whole]
  exact h

/-- R17: intake at its reset values meets the invariant under the bank it is reset with. -/
theorem intakeInv_of_reset (intake : t.intake = Intake.afterReset t.bank) : t.IntakeInv := by
  refine ⟨?_, fun k => ?_, fun _ k => ?_, fun _ => ?_⟩ <;> rw [intake]
  · exact Counters.zero_inRange
  · simp only [Intake.afterReset, Fin.getElem_fin, Vector.getElem_ofFn]; exact SourceStatus.initial_inRange _
  · simp only [Intake.afterReset, Fin.getElem_fin, Vector.getElem_ofFn]; exact SourceStatus.initial_disabled_iff _
  · have state (k : Fin 8) : (Vector.ofFn fun k => SourceStatus.initial (t.bank.source k))[k].state
        = if (t.bank.source k).enabled then .recovering else .disabled := by
      simp [SourceStatus.initial]
    have inactive (role : Role) :
        roleActive t.bank (Vector.ofFn fun k => SourceStatus.initial (t.bank.source k)) role = false := by
      unfold roleActive
      split
      · rw [state]; split <;> rfl
      · rfl
    refine ⟨?_, ?_⟩
    · simp only [Intake.afterReset, selectVoltage, inactive]; rfl
    · simp only [Intake.afterReset, anyFeederLost, state]
      symm
      rw [List.any_eq_false]
      intro k _
      split <;> simp

/-- A part that does not run needs of intake only its ranges. -/
theorem intakeInv_of_held (h : s.IntakeInv) (same : t.intake = s.intake) (held : t.phase ≠ .running) : t.IntakeInv :=
  ⟨same ▸ h.1, same ▸ h.2.1, fun running => absurd running held, fun running => absurd running held⟩

theorem intakeRelease_intakeInv (set : ReleasedSet) (h : s.IntakeInv) : (s.intakeRelease set).IntakeInv := by
  obtain ⟨counters, ranges, disabled, -⟩ := h
  have frame := intakeRelease_leaves s set
  have phase : (s.intakeRelease set).phase = s.phase := frame .phase (by decide)
  have bank : (s.intakeRelease set).bank = s.bank := frame .bank (by decide)
  have intake : (s.intakeRelease set).intake =
      s.intake.withSources s.bank (nextSources s.bank set s.intake.sources) := by
    simp [State.intakeRelease]
  refine ⟨intake ▸ counters, fun k => ?_, fun running k => ?_, fun _ => ?_⟩
  · rw [s.intakeRelease_source]; exact nextStatus_inRange _ _ _ (ranges k)
  · rw [s.intakeRelease_source, nextStatus_disabled_iff, bank]; exact disabled (phase ▸ running) k
  · rw [bank, intake]; exact ⟨rfl, rfl⟩

theorem swapped_intakeInv (d : Word) (running : s.phase = .running) (h : s.IntakeInv) : (s.swapped d).IntakeInv := by
  obtain ⟨counters, ranges, disabled, -⟩ := h
  have source (k : Fin 8) : (s.swapped d).intake.sources[k] =
      swapStatus (s.bank.source k) ((s.swapped d).bank.source k) s.intake.sources[k] := by
    simp [Intake.withSources, swapSources]
  refine ⟨counters, fun k => ?_, fun _ k => ?_, fun _ => ⟨rfl, rfl⟩⟩
  · rw [source]; exact swapStatus_inRange _ _ (ranges k)
  · rw [source]; exact swapStatus_disabled_iff (disabled running k)

/-! ### Resets -/

theorem driveReset_intakeInv (h : s.IntakeInv) : s.driveReset.IntakeInv := by
  unfold State.driveReset
  split <;> first | exact h | exact intakeInv_of_reset rfl

theorem holdEnds_intakeInv (cause : HoldEnd) (straps : BitVec 6) (h : s.IntakeInv) :
    (s.holdEnds cause straps).IntakeInv := by
  cases cause with
  | supplyReached =>
    simp only [State.holdEnds, State.supplyReached]
    split <;> [exact intakeInv_of_held h rfl nofun; exact h]
  | resetLineHigh =>
    simp only [State.holdEnds, State.resetReleased]
    split <;> [exact intakeInv_of_held h rfl nofun; exact intakeInv_of_reset rfl; exact h]

theorem endReset_intakeInv (s : State) (kind : ResetKind) (result : SelfTestResult) :
    (s.endReset kind result).IntakeInv := intakeInv_of_reset rfl

theorem endSelfTest_intakeInv (h : s.IntakeInv) : s.endSelfTest.IntakeInv := by
  unfold State.endSelfTest
  split
  · unfold State.powerOnTest
    generalize TableStore.initialised = initial
    simp only
    split <;> [exact endReset_intakeInv _ _ _; exact intakeInv_of_held h rfl (by simp)]
  · simp only [State.hardTest]
    split <;> exact endReset_intakeInv _ _ _
  · exact h

theorem finishSoftReset_intakeInv (s : State) (r : Request) : (finishSoftReset s r).IntakeInv := by
  have blocks : s.softBlocks.IntakeInv := intakeInv_of_reset rfl
  exact intakeInv_reads.after ((deliver_leaves _ _).andThen (answer_leaves _ r _)) (by decide) blocks

/-! ### Every command -/

theorem intakeInv_keptByInputs : KeptByInputs State.IntakeInv where
  handle t c r _ _ _ := by
    refine intakeInv_reads.after (close_leaves t r (handlerOf_leaves t c r)) ?_
    cases c <;> decide
  answer t r _ p _ _ := intakeInv_reads.after (answer_leaves t r p) (by decide)
  straps _ _ h := h
  receiveM t frame _ h := intakeInv_of_counters (receiveM_leaves t frame) (by decide) (receiveM_inRange frame h.1) h
  receiveC t frame _ h := intakeInv_of_counters (receiveC_leaves t frame) (by decide) (receiveC_inRange frame h.1) h
  edge t high := intakeInv_reads.after (edge_leaves t high) (by decide)
  loseSignal t link mid _ h :=
    intakeInv_of_counters (loseSignal_leaves t link mid) (by decide) (loseSignal_inRange link mid h.1) h
  regainSync t link _ := intakeInv_reads.after (regainSync_leaves t link) (by decide)
  finishClone t r _ _ := intakeInv_reads.after (finishClone_leaves t r) (by decide)
  finishCommit t r _ service h :=
    finishCommit_keeps r service.running (fun _ frame => intakeInv_reads.after frame (by decide) h)
      (fun _ => swapped_intakeInv) fun _ _ h => h
  completeAudit t _ := intakeInv_reads.after (completeAudit_leaves t) (by decide)
  endPulse t _ := intakeInv_reads.after (endPulse_leaves t) (by decide)

theorem takeBoundary_intakeInv (fig : ArcFigures) (running : s.phase = .running) (h : s.IntakeInv) :
    (s.takeBoundary fig).IntakeInv := by
  refine (takeBoundary_keeps (P := fun t => t.phase = .running ∧ t.IntakeInv) (fun _ _ h => h) (fun _ _ h => h)
    (fun _ h => h) (fun t d _ h => ⟨t.swapped_phase d |>.trans h.1, swapped_intakeInv d h.1 h.2⟩)
    (fun t fig e o h => ?_) fig ⟨running, h⟩).2
  have frame := boundaryBlocks_leaves t fig e o
  exact ⟨(frame .phase (by decide)).trans h.1, intakeInv_reads.after frame (by decide) h.2⟩

theorem intakeInv_keptByArrivals : KeptByArrivals (fun _ => True) fun _ => State.IntakeInv where
  aside _ t x _ h :=
    intakeInv_keptByInputs.aside x (fun _ => intakeInv_of_reset rfl) (fun _ => driveReset_intakeInv h) h
  abandoned _ _ _ h := h
  check _ _ h := h
  noteSet _ _ h := ⟨countHeld_inRange _ h.1, h.2⟩
  intakeRelease _ set _ := intakeRelease_intakeInv set
  noteReleased _ _ h := h
  track _ _ _ h := h
  feedWindows _ _ _ _ h := h
  compose _ _ _ _ h := h
  sendC _ _ _ _ h := h
  leaveC _ _ _ h := h
  done _ h := h
  closeCycle _ _ h := h
  takeBoundary _ fig := takeBoundary_intakeInv fig
  ring _ _ _ h := h
  countDuplicate _ h := ⟨countDuplicate_inRange h.1, h.2⟩
  countLate _ h := ⟨countLate_inRange h.1, h.2⟩
  countResync _ h := ⟨countResync_inRange h.1, h.2⟩
  countHealth _ _ _ h := h
  record _ _ h := h

theorem intakeInv_keptByCommands : KeptByCommands State.IntakeInv where
  toKeptByInputs := intakeInv_keptByInputs
  queue _ _ h := h
  supplyStart _ _ := intakeInv_of_reset rfl
  driveReset _ := driveReset_intakeInv
  holdEnds _ cause straps := holdEnds_intakeInv cause straps
  endSelfTest _ := endSelfTest_intakeInv
  finishSoftReset t r _ _ _ := finishSoftReset_intakeInv t r
  takeNext _ _ running := intakeInv_keptByArrivals.takeNext (fun _ _ => trivial) running

end

/-- Settles O14: intake's update and the swap give the voltage in use and FEEDER_SOURCE_LOST from the source states they
leave; between them only counters change. -/
theorem intakeAgreesWithTheBank : Obligations.IntakeAgreesWithTheBank := fun _ _ h run =>
  intakeInv_keptByCommands.step h run

end Sys2Proof.Machine

/-! The angle tracker keeps its ranges (R40, R48 to R55). Two of them are broken inside a set: between intake's update
and the tracker's handling the voltage in use may be none in a LOCKED tracker, and a set that ends a cycle leaves the
cycle's sets counted until the cycle is closed. -/

namespace Sys2Proof.Machine

/-! ### The ranges of the tracker alone -/

/-- R49: the lock run is kept while UNLOCKED, the unlock run while LOCKED. -/
structure Tracker.LockRuns (t : Tracker) : Prop where
  lockRun : t.lockRun < 64
  unlockRun : t.unlockRun < 16
  locked : t.locked = true → t.lockRun = 0
  unlocked : t.locked = false → t.unlockRun = 0

/-- The ranges that hold of the tracker at every place inside a set. -/
structure Tracker.Ranges (t : Tracker) : Prop where
  phase : t.phase < 65536
  integratorLow : -16384 ≤ t.integrator
  integratorHigh : t.integrator ≤ 16384
  runs : t.LockRuns
  sagRun : t.sagRun ≤ 4
  sagClearRun : t.sagClearRun ≤ 4
  vd : InIu t.vd
  vq : InIu t.vq
  cycleSum : t.cycleSum.natAbs ≤ 32767 * t.cycleSets
  lastMean : ∀ m ∈ t.lastMean, InIu m
  lastStep : ∀ d ∈ t.lastStep, d ≤ 32767
  cycle : t.cycle < 65536

/-- R48: a cycle so far has advanced P by at least 832 for each of its sets. -/
def Tracker.CycleFits (t : Tracker) : Prop := 832 * t.cycleSets ≤ t.phase

theorem Tracker.afterReset_ranges : Tracker.afterReset.Ranges where
  phase := by decide
  integratorLow := by decide
  integratorHigh := by decide
  runs := ⟨by decide, by decide, nofun, fun _ => rfl⟩
  sagRun := by decide
  sagClearRun := by decide
  vd := by decide
  vq := by decide
  cycleSum := by decide
  lastMean := nofun
  lastStep := nofun
  cycle := by decide

section
variable {t : Tracker} {b : Bank}

theorem Tracker.LockRuns.unlock (t : Tracker) : t.unlock.LockRuns :=
  ⟨Nat.zero_lt_succ _, Nat.zero_lt_succ _, nofun, fun _ => rfl⟩

/-- R49: in a band or outside it, locked or not, a run ends before its limit or with the change of state. -/
theorem Tracker.LockRuns.lockRuns (h : t.LockRuns) : (t.lockRuns b).LockRuns := by
  obtain ⟨lockRun, unlockRun, locked, unlocked⟩ := h
  unfold Tracker.lockRuns
  split
  · split
    · next on => exact ⟨lockRun, Nat.zero_lt_succ _, locked, fun _ => rfl⟩
    · next off =>
      split
      · exact ⟨Nat.zero_lt_succ _, Nat.zero_lt_succ _, fun _ => rfl, fun _ => rfl⟩
      · next short => exact ⟨by simp only; omega, unlockRun, fun on => absurd on off, unlocked⟩
  · split
    · next on =>
      split
      · exact Tracker.LockRuns.unlock t
      · next short => exact ⟨lockRun, by simp only; omega, locked, fun off => absurd on (by simpa using off)⟩
    · next off => exact ⟨Nat.zero_lt_succ _, unlockRun, fun _ => rfl, unlocked⟩

theorem Tracker.Ranges.unlock (h : t.Ranges) : t.unlock.Ranges := { h with runs := .unlock t }

theorem Tracker.Ranges.onSwap (h : t.Ranges) (old new : Bank) (begins : Bool) : (t.onSwap old new begins).Ranges := by
  unfold Tracker.onSwap
  split
  · exact
      { h with
        runs := ⟨Nat.zero_lt_succ _, Nat.zero_lt_succ _, nofun, fun _ => rfl⟩
        integratorLow := (by decide : (-16384 : Int) ≤ 0), integratorHigh := (by decide : (0 : Int) ≤ 16384) }
  · split
    · exact h.unlock
    · exact h

theorem Tracker.onSwap_cycleFits (old new : Bank) (begins : Bool) (h : t.CycleFits) :
    (t.onSwap old new begins).CycleFits := by
  unfold Tracker.onSwap; split <;> [exact h; split <;> exact h]

/-- R54: a swap locks no tracker, and one at which VOLTAGE_LOST begins unlocks it. -/
theorem Tracker.onSwap_unlocked {old new : Bank} {begins : Bool} (h : begins = true ∨ t.locked = false) :
    (t.onSwap old new begins).locked = false := by
  unfold Tracker.onSwap
  split
  · rfl
  · split
    · rfl
    · next no => exact h.resolve_left no

/-! ### A released set (R41 to R51) -/

theorem Tracker.phase_advance_lt (step : Int) : (t.advance step).phase < 65536 := by
  have advanced := t.advance_phase step
  omega

/-- R48: a set that ends no cycle leaves P by its step higher. -/
theorem Tracker.phase_advance_of_not_ends {step : Int} (positive : 0 ≤ step)
    (short : decide (65536 ≤ (t.phase : Int) + step) = false) : ((t.advance step).phase : Int) = t.phase + step := by
  have advanced := t.advance_phase step
  simp only [decide_eq_false_iff_not] at short
  omega

theorem Tracker.withVoltage_inIu (v : Phases) : InIu (t.withVoltage b v).vd ∧ InIu (t.withVoltage b v).vq := by
  rw [Tracker.withVoltage_vd, Tracker.withVoltage_vq]
  exact ⟨saturate_inIu _, saturate_inIu _⟩

theorem Tracker.withVoltage_sagRuns_le (v : Phases) :
    (t.withVoltage b v).sagRun ≤ 4 ∧ (t.withVoltage b v).sagClearRun ≤ 4 := by
  by_cases below : (t.withVoltage b v).vd < b.param .sagLevel
  · obtain ⟨run, clear⟩ := Tracker.withVoltage_of_below below
    omega
  · obtain ⟨run, clear⟩ := Tracker.withVoltage_of_clear (not_lt.1 below)
    omega

theorem Tracker.freeStep_mem (h : t.Ranges) : 832 ≤ t.freeStep := by
  have integral : (roundedShift 8 t.integrator).natAbs ≤ 64 :=
    roundedShift_natAbs_le (by have := h.integratorLow; have := h.integratorHigh; omega)
  unfold Tracker.freeStep
  omega

theorem Tracker.Ranges.handle (h : t.Ranges) (v : Option Phases) : (t.handle b v).1.Ranges := by
  cases v with
  | some v =>
    obtain ⟨vd, vq⟩ := t.withVoltage_inIu (b := b) v
    obtain ⟨sagRun, sagClearRun⟩ := t.withVoltage_sagRuns_le (b := b) v
    obtain ⟨low, high⟩ := Tracker.withVoltage_integrator_mem (b := b) (v := v) h.integratorLow h.integratorHigh
    have before : (t.withVoltage b v).LockRuns := by
      obtain ⟨lockRun, unlockRun, locked, unlocked⟩ := h.runs
      constructor <;> simpa
    have runs := before.lockRuns (b := b)
    rw [Tracker.handle_some]
    exact
      { phase := t.phase_advance_lt _, integratorLow := low, integratorHigh := high, sagRun := sagRun
        runs := ⟨runs.lockRun, runs.unlockRun, runs.locked, runs.unlocked⟩
        sagClearRun := sagClearRun, vd := vd, vq := vq
        cycleSum := by have := h.cycleSum; simp only; omega
        lastMean := h.lastMean, lastStep := h.lastStep, cycle := h.cycle }
  | none =>
    rw [Tracker.handle_none]
    exact
      { h with
        phase := t.phase_advance_lt _, runs := ⟨Nat.zero_lt_succ _, Nat.zero_lt_succ _, nofun, fun _ => rfl⟩
        vd := (by decide : InIu 0), vq := (by decide : InIu 0)
        cycleSum := by have := h.cycleSum; simp only; omega }

/-- R48: a set that ends no cycle keeps the advance of 832 for each set. -/
theorem Tracker.CycleFits.handle (fits : t.CycleFits) (h : t.Ranges) (v : Option Phases)
    (goes : (t.handle b v).2 = false) : (t.handle b v).1.CycleFits := by
  unfold Tracker.CycleFits at fits ⊢
  cases v with
  | some v =>
    obtain ⟨low, high⟩ := Tracker.withVoltage_integrator_mem (b := b) (v := v) h.integratorLow h.integratorHigh
    obtain ⟨step, -⟩ := Tracker.step_mem (b := b) low high
    rw [Tracker.handle_some] at goes ⊢
    have advanced := Tracker.phase_advance_of_not_ends (by omega) goes
    simp only
    omega
  | none =>
    have step := Tracker.freeStep_mem h
    rw [Tracker.handle_none] at goes ⊢
    have advanced := Tracker.phase_advance_of_not_ends (by omega) goes
    simp only
    omega

theorem Tracker.handle_none_unlocked : (t.handle b none).1.locked = false := by
  rw [Tracker.handle_none]

/-! ### Closing a cycle (R52) -/

/-- R52: the mean of a cycle is within iu. -/
theorem Tracker.cycleMean_inIu (h : t.Ranges) : ∀ m ∈ t.cycleMean, InIu m := by
  intro m mem
  unfold Tracker.cycleMean truncDiv at mem
  split at mem
  · cases mem
    have sum := h.cycleSum
    have quotient : (t.cycleSum.tdiv t.cycleSets).natAbs ≤ 32767 := by
      rw [Int.natAbs_tdiv, Int.natAbs_natCast]
      exact Nat.div_le_of_le_mul (by omega)
    constructor <;> omega
  · simp at mem

theorem Tracker.Ranges.closeCycle (h : t.Ranges) : (t.closeCycle b).Ranges :=
  { h with
    runs := ⟨h.runs.lockRun, h.runs.unlockRun, h.runs.locked, h.runs.unlocked⟩
    cycleSum := by simp [Tracker.closeCycle]
    lastMean := Tracker.cycleMean_inIu h
    lastStep := by
      intro d mem
      simp only [Tracker.closeCycle, Tracker.fluctuation] at mem
      split at mem
      · cases mem; exact Nat.min_le_left _ _
      · simp at mem
    cycle := Nat.mod_lt _ (by decide) }

theorem Tracker.closeCycle_cycleFits : (t.closeCycle b).CycleFits := Nat.zero_le _

end

/-! ### The invariant at a place inside a set -/

/-- The tracker's invariant, its clause of the voltage in use where `voltage` says so, its clause of the cycle's advance
where `cycle` does or the part does not run. -/
structure TrackerAt (voltage cycle : Bool) (s : State) : Prop where
  ranges : s.tracker.Ranges
  held : s.phase ≠ .running → s.tracker.locked = false
  lost : voltage = true → s.intake.voltage = .none → s.tracker.locked = false
  fits : cycle = true ∨ s.phase ≠ .running → s.tracker.CycleFits

theorem State.trackerInv_iff (s : State) : s.TrackerInv ↔ TrackerAt true true s := by
  constructor
  · rintro ⟨phase, low, high, lockRun, unlockRun, locked, unlocked, sagRun, clearRun, vd, vq, fits, sum, mean, step,
      cycle, lost, held⟩
    exact ⟨⟨phase, low, high, ⟨lockRun, unlockRun, locked, unlocked⟩, sagRun, clearRun, vd, vq, sum, mean, step, cycle⟩,
      held, fun _ => lost, fun _ => fits⟩
  · rintro ⟨⟨phase, low, high, ⟨lockRun, unlockRun, locked, unlocked⟩, sagRun, clearRun, vd, vq, sum, mean, step,
      cycle⟩, held, lost, fits⟩
    exact ⟨phase, low, high, lockRun, unlockRun, locked, unlocked, sagRun, clearRun, vd, vq, fits (.inl rfl), sum, mean,
      step, cycle, lost rfl, held⟩

section
variable {s t : State} {voltage cycle : Bool}

theorem trackerAt_reads (voltage cycle : Bool) : Reads [.phase, .sources, .tracker] (TrackerAt voltage cycle) := by
  intro s t same h
  have phase : t.phase = s.phase := same .phase (by decide)
  have intake : t.intake = { s.intake with counters := t.intake.counters } := same .sources (by decide)
  have tracker : t.tracker = s.tracker := same .tracker (by decide)
  obtain ⟨ranges, held, lost, fits⟩ := h
  refine ⟨tracker ▸ ranges, ?_, ?_, ?_⟩
  · rw [phase, tracker]; exact held
  · rw [intake, tracker]; exact lost
  · rw [phase, tracker]; exact fits

/-- R55: a tracker at its reset values meets all of it. -/
theorem trackerAt_of_reset (tracker : t.tracker = Tracker.afterReset) : TrackerAt voltage cycle t :=
  ⟨tracker ▸ Tracker.afterReset_ranges, fun _ => tracker ▸ rfl, fun _ _ => tracker ▸ rfl,
    fun _ => tracker ▸ Nat.le_refl _⟩

/-- In a part that does not run the clauses are all one. -/
theorem TrackerAt.of_held (h : TrackerAt voltage cycle s) (held : s.phase ≠ .running) : TrackerAt true true s :=
  ⟨h.ranges, h.held, fun _ _ => h.held held, fun _ => h.fits (.inr held)⟩

/-- R54: a swap unlocks where VOLTAGE_LOST begins at it. -/
theorem swapped_trackerAt (d : Word) (running : s.phase = .running) (h : TrackerAt voltage cycle s) :
    TrackerAt voltage cycle (s.swapped d) := by
  have runs : (s.swapped d).phase = .running := (s.swapped_phase d).trans running
  refine ⟨h.ranges.onSwap _ _ _, fun held => absurd runs held, fun clause now => ?_,
    fun c => Tracker.onSwap_cycleFits _ _ _ (h.fits (c.imp id fun held => absurd runs held))⟩
  rw [State.swapped_tracker]
  refine Tracker.onSwap_unlocked ?_
  by_cases before : s.intake.voltage = .none
  · exact .inr (h.lost clause before)
  · exact .inl (by simp only [now, before, bne_iff_ne, ne_eq, not_false_eq_true, Bool.and_eq_true, beq_self_eq_true,
      and_self])

theorem takeBoundary_trackerAt (fig : ArcFigures) (running : s.phase = .running) (h : TrackerAt voltage cycle s) :
    TrackerAt voltage cycle (s.takeBoundary fig) := by
  have reads := trackerAt_reads voltage cycle
  refine (takeBoundary_keeps (P := fun t => t.phase = .running ∧ TrackerAt voltage cycle t)
    (fun u g h => ⟨h.1, reads.after (deliver_leaves u g) (by decide) h.2⟩)
    (fun u n h => ⟨h.1, reads.after (setEvents_leaves u _ n) (by decide) h.2⟩)
    (fun u h => ⟨h.1, reads.after (rollFlags_leaves u) (by decide) h.2⟩)
    (fun t d _ h => ⟨t.swapped_phase d |>.trans h.1, swapped_trackerAt d h.1 h.2⟩)
    (fun u fig e o h => ?_) fig ⟨running, h⟩).2
  have frame := boundaryBlocks_leaves u fig e o
  exact ⟨(frame .phase (by decide)).trans h.1, reads.after frame (by decide) h.2⟩

theorem driveReset_trackerAt (h : TrackerAt voltage cycle s) : TrackerAt voltage cycle s.driveReset := by
  unfold State.driveReset
  split <;> first
    | exact trackerAt_of_reset rfl
    | exact (trackerAt_reads voltage cycle).after (setPins_leaves s _) (by decide) h

/-- R55: a part held in reset has its tracker as the reset left it, and keeps it so when it starts to run. -/
theorem trackerAt_of_start (h : TrackerAt true true s) (held : s.phase ≠ .running) (same : t.tracker = s.tracker) :
    TrackerAt true true t :=
  ⟨same ▸ h.ranges, fun _ => same ▸ h.held held, fun _ _ => same ▸ h.held held, fun _ => same ▸ h.fits (.inl rfl)⟩

theorem holdEnds_trackerAt (cause : HoldEnd) (straps : BitVec 6) (h : TrackerAt true true s) :
    TrackerAt true true (s.holdEnds cause straps) := by
  have lineHigh : TrackerAt true true (s.setResetN true) :=
    (trackerAt_reads true true).after (setPins_leaves s _) (by decide) h
  cases cause with
  | supplyReached =>
    simp only [State.holdEnds, State.supplyReached]
    split
    · next held => exact trackerAt_of_start h (held ▸ nofun) rfl
    · exact h
  | resetLineHigh =>
    simp only [State.holdEnds, State.resetReleased]
    split
    · next held => exact trackerAt_of_start h (held ▸ nofun) rfl
    · next held => exact trackerAt_of_start h (held ▸ nofun) rfl
    · exact lineHigh

theorem endSelfTest_trackerAt (h : TrackerAt true true s) : TrackerAt true true s.endSelfTest := by
  unfold State.endSelfTest
  split
  · next held =>
    unfold State.powerOnTest
    generalize TableStore.initialised = initial
    simp only
    split <;> exact trackerAt_of_start h (held ▸ nofun) rfl
  · next held =>
    unfold State.hardTest
    generalize TableStore.initialised = initial
    split <;> exact trackerAt_of_start h (held ▸ nofun) rfl
  · exact h

/-! ### Every command -/

theorem trackerAt_keptByInputs (voltage cycle : Bool) : KeptByInputs (TrackerAt voltage cycle) :=
  .of_reads (trackerAt_reads voltage cycle) (by decide) fun _ => swapped_trackerAt

/-- The clause of the voltage in use holds but between intake's update and the tracker's handling. -/
def Place.knowsVoltage : Place → Bool
  | .updated _ => false
  | _ => true

/-- The clause of the cycle's advance holds but from a set that ends the cycle to its closing. -/
def Place.cycleFits : Place → Bool
  | .handled ends => !ends
  | .sending ends => !ends
  | _ => true

/-- R41, R50: the tracker's handling of a set restores the clause of the voltage in use. -/
theorem track_trackerAt (set : ReleasedSet) (running : s.phase = .running) (h : TrackerAt false true s) :
    let v := voltageValues s.bank s.intake.voltage set
    TrackerAt true (!(s.tracker.handle s.bank v).2) (s.track set.count v) := by
  intro v
  have tracker : (s.track set.count v).tracker = (s.tracker.handle s.bank v).1 := rfl
  have runs : (s.track set.count v).phase = .running := (s.track_phase _ _).trans running
  refine ⟨?_, fun held => absurd runs held, fun _ lost => ?_, fun goes => ?_⟩ <;> rw [tracker]
  · exact h.ranges.handle v
  · have none : v = none := by
      have lost : s.intake.voltage = .none := lost
      simp only [v, lost, voltageValues]
    rw [none]
    exact Tracker.handle_none_unlocked
  · exact (h.fits (.inl rfl)).handle h.ranges v (by simpa using goes.resolve_right fun held => held runs)

theorem trackerAt_keptByArrivals :
    KeptByArrivals (fun _ => True) fun p => TrackerAt p.knowsVoltage p.cycleFits where
  aside p t x _ h :=
    (trackerAt_keptByInputs _ _).aside x (fun _ => trackerAt_of_reset rfl) (fun _ => driveReset_trackerAt h) h
  abandoned _ _ held h := h.of_held held
  check _ _ h := h
  noteSet t _ := (trackerAt_reads _ _).after (noteSet_leaves t _) (by decide)
  intakeRelease t set _ h := by
    have frame := intakeRelease_leaves t set
    have phase : (t.intakeRelease set).phase = t.phase := frame .phase (by decide)
    have tracker : (t.intakeRelease set).tracker = t.tracker := frame .tracker (by decide)
    exact ⟨tracker ▸ h.ranges, phase ▸ tracker ▸ h.held, nofun, phase ▸ tracker ▸ h.fits⟩
  noteReleased t set := (trackerAt_reads _ _).after (noteReleased_leaves t set) (by decide)
  track _ set := track_trackerAt set
  feedWindows t _ i v := (trackerAt_reads _ _).after (feedWindows_leaves t i v) (by decide)
  compose t _ count out := (trackerAt_reads _ _).after (compose_leaves t count out) (by decide)
  sendC t _ frame _ := (trackerAt_reads _ _).after (sendC_leaves t frame) (by decide)
  leaveC t _ count := (trackerAt_reads _ _).after (leaveC_leaves t count) (by decide)
  done _ h := h
  closeCycle t _ h := ⟨h.ranges.closeCycle, h.held, h.lost, fun _ => Tracker.closeCycle_cycleFits⟩
  takeBoundary _ fig := takeBoundary_trackerAt fig
  ring t r _ h := ⟨h.ranges, h.held, h.lost, h.fits⟩
  countDuplicate t := (trackerAt_reads _ _).after (setCounters_leaves t _) (by decide)
  countLate t := (trackerAt_reads _ _).after (setCounters_leaves t _) (by decide)
  countResync t := (trackerAt_reads _ _).after (setCounters_leaves t _) (by decide)
  countHealth t _ _ := (trackerAt_reads _ _).after (setHealth_leaves t _) (by decide)
  record t body := (trackerAt_reads _ _).after (record_leaves t body) (by decide)

theorem trackerAt_keptByCommands : KeptByCommands (TrackerAt true true) where
  toKeptByInputs := trackerAt_keptByInputs true true
  queue _ _ h := ⟨h.ranges, h.held, h.lost, h.fits⟩
  supplyStart _ _ := trackerAt_of_reset rfl
  driveReset _ := driveReset_trackerAt
  holdEnds _ cause straps := holdEnds_trackerAt cause straps
  endSelfTest _ := endSelfTest_trackerAt
  finishSoftReset t r _ _ _ := by
    have blocks : TrackerAt true true t.softBlocks := trackerAt_of_reset rfl
    exact (trackerAt_reads true true).after ((deliver_leaves _ _).andThen (answer_leaves _ r _)) (by decide) blocks
  takeNext _ _ running := trackerAt_keptByArrivals.takeNext (fun _ _ => trivial) running

end

theorem step_trackerInv {s t : State} (h : s.TrackerInv) (run : step s = .next t) : t.TrackerInv :=
  t.trackerInv_iff.2 (trackerAt_keptByCommands.step (s.trackerInv_iff.1 h) run)

end Sys2Proof.Machine

/-! The composer's injection record and the link C port keep their ranges, the port sees the level of CBLK, and a
reference frame is in the transmitter only while it is being sent (R71, R89, R94, R95, R102). -/

namespace Sys2Proof.Machine

/-! ### The injection record (R71, R88 to R90) -/

section
variable {c : Composer}

theorem Composer.afterReset_ok : Composer.afterReset.Ok := by decide

theorem Composer.Ok.inject (v : Phases) {n : Nat} (range : n ≤ 65535) : (c.inject v n).Ok := by
  refine ⟨⟨saturate_inIu _, saturate_inIu _, saturate_inIu _⟩, range, nofun, fun _ counted => ?_, fun _ endless => ?_⟩
  · exact Nat.one_le_iff_ne_zero.2 (by simpa [Composer.inject] using counted)
  · simpa [Composer.inject] using endless

theorem Composer.Ok.ended (h : c.Ok) : Composer.Ok { c with injActive := false, injRemaining := 0 } :=
  ⟨h.1, Nat.zero_le _, fun _ => rfl, nofun, nofun⟩

/-- R89: a counted injection is active while sets remain. -/
theorem Composer.Ok.countdown (h : c.Ok) : c.countdown.Ok := by
  obtain ⟨values, range, idle, counted, endless⟩ := h
  unfold Composer.countdown
  split
  · next on =>
    simp only [Bool.and_eq_true] at on
    refine ⟨values, by simp only; omega, fun off => ?_, fun active _ => ?_, fun _ off => ?_⟩
    · simpa using off
    · simp only [decide_eq_true_eq] at active ⊢
      omega
    · exact absurd (on.2.symm.trans off) (by decide)
  · exact ⟨values, range, idle, counted, endless⟩

end

/-! ### The port (R94, R101 to R104) -/

section
variable {l : LinkC} {b : Bank}

theorem LinkC.afterReset_ok (b : Bank) (cblk synced : Bool) : (LinkC.afterReset b cblk synced).Ok := by
  have stale := (b.count_mem .staleSets (by decide)).2
  simp only [Param.hi] at stale
  exact ⟨Nat.zero_le _, Nat.zero_le _, by simp only [LinkC.afterReset]; omega, Nat.zero_le _, fun _ => rfl,
    fun _ => rfl⟩

theorem LinkC.Ok.countSet (h : l.Ok) : (l.countSet b).Ok := by
  obtain ⟨capability, fault, -, thermal, run, stale⟩ := h
  exact ⟨capability, fault, Nat.min_le_left _ _, thermal, run, fun absent => by simp [LinkC.countSet, stale absent]⟩

theorem judgeLinkC_ranges {ws : List Word} {st : ConverterStatus} (h : judgeLinkC ws = some st) :
    st.capability ≤ 32767 ∧ st.fault ≤ 255 := by
  unfold judgeLinkC at h
  split at h
  · cases h
    exact ⟨Nat.min_le_left _ _, Nat.le_of_lt_succ (bitField_lt 0 8 _)⟩
  · cases h

/-- R104: the thermal clear run ends before THERMAL_CLEAR, which is at most 15. -/
theorem LinkC.Ok.takeStatus {st : ConverterStatus} (h : l.Ok) (ranges : st.capability ≤ 32767 ∧ st.fault ≤ 255) :
    (l.takeStatus b st).Ok := by
  obtain ⟨-, -, -, thermal, run, -⟩ := h
  have clear := (b.count_mem .thermalClear (by decide)).2
  simp only [Param.hi] at clear
  unfold LinkC.takeStatus LinkC.thermalStep
  split
  · exact ⟨ranges.1, ranges.2, Nat.zero_le _, Nat.zero_le _, nofun, nofun⟩
  · split
    · next on =>
      split
      · exact ⟨ranges.1, ranges.2, Nat.zero_le _, Nat.zero_le _, fun _ => rfl, nofun⟩
      · next short =>
        exact ⟨ranges.1, ranges.2, Nat.zero_le _, by simp only at short ⊢; omega,
          fun off => absurd (on.symm.trans off) (by decide), nofun⟩
    · exact ⟨ranges.1, ranges.2, Nat.zero_le _, thermal, run, nofun⟩

end

/-! ### The invariant at a place inside a set -/

/-- The composer's and the port's invariant, a frame in the transmitter allowed where `sending` says so. -/
structure OutputAt (sending : Bool) (s : State) : Prop where
  composer : s.composer.Ok
  port : s.linkC.Ok
  line : s.phase = .running → s.linkC.blockLine = s.pins.cblk
  handed : s.linkCOut.handed = [] ∨ sending = true ∧ s.phase = .running

theorem State.outputInv_iff (s : State) : s.OutputInv ↔ OutputAt false s :=
  ⟨fun ⟨composer, port, line, handed⟩ => ⟨composer, port, line, .inl handed⟩,
    fun ⟨composer, port, line, handed⟩ => ⟨composer, port, line, handed.resolve_right (by simp)⟩⟩

section
variable {s t : State} {sending : Bool}

theorem outputAt_reads (sending : Bool) : Reads [.phase, .pins, .composer, .linkC, .linkCOut] (OutputAt sending) := by
  intro s t same h
  have phase : t.phase = s.phase := same .phase (by decide)
  have pins : t.pins = s.pins := same .pins (by decide)
  have composer : t.composer = s.composer := same .composer (by decide)
  have port : t.linkC = s.linkC := same .linkC (by decide)
  have out : t.linkCOut = s.linkCOut := same .linkCOut (by decide)
  obtain ⟨c, l, line, handed⟩ := h
  exact ⟨composer ▸ c, port ▸ l, by rw [phase, port, pins]; exact line, by rw [out, phase]; exact handed⟩

theorem OutputAt.setComposer {c : Composer} (h : OutputAt sending s) (ok : c.Ok) : OutputAt sending (s.setComposer c) :=
  ⟨ok, h.port, h.line, h.handed⟩

theorem OutputAt.setLinkC {l : LinkC} (h : OutputAt sending s) (ok : l.Ok)
    (line : l.blockLine = s.linkC.blockLine) : OutputAt sending (s.setLinkC l) :=
  ⟨h.composer, ok, fun running => line.trans (h.line running), h.handed⟩

theorem OutputAt.deliver (g : List (List Offer)) (h : OutputAt sending s) : OutputAt sending (s.deliver g) :=
  (outputAt_reads sending).after (deliver_leaves s g) (by decide) h

/-- R93, R107: the composer and the port at their reset values, the frame being sent cut off. -/
theorem outputAt_of_reset (b : Bank) (synced : Bool) (composer : t.composer = Composer.afterReset)
    (port : t.linkC = LinkC.afterReset b t.pins.cblk synced) (handed : t.linkCOut.handed = []) :
    OutputAt sending t :=
  ⟨composer ▸ Composer.afterReset_ok, port ▸ LinkC.afterReset_ok _ _ _, fun _ => port ▸ rfl, .inl handed⟩

theorem hold_outputAt (s : State) (phase : RunPhase) (handed : s.linkCOut.handed = []) :
    OutputAt sending (s.hold phase) :=
  outputAt_of_reset s.bank false rfl rfl handed

theorem driveReset_outputAt (h : OutputAt sending s) : OutputAt sending s.driveReset := by
  unfold State.driveReset
  split <;> first | exact ⟨h.composer, h.port, h.line, h.handed⟩ | exact hold_outputAt _ _ rfl

theorem handlerOf_outputAt (c : RequestCode) (r : Request) (h : OutputAt sending s) :
    OutputAt sending (handlerOf c s r).state := by
  have frame (apart : ∀ p ∈ [Part.phase, .pins, .composer, .linkC, .linkCOut], p ∉ c.handles) :
      OutputAt sending (handlerOf c s r).state :=
    (outputAt_reads sending).after (handlerOf_leaves s c r) apart h
  cases c with
  | inject =>
    have range : r.param 6 ≤ 65535 := Nat.le_of_lt_succ (r.params.getD 6 0).isLt
    exact (h.setComposer (Composer.Ok.inject _ range)).deliver _
  | injectClear =>
    simp only [handlerOf, handleInjectClear]
    split <;> [exact (h.setComposer h.composer.ended).deliver _; exact h]
  | _ => exact frame (by decide)

theorem outputAt_keptByInputs (sending : Bool) : KeptByInputs (OutputAt sending) where
  handle t c r _ _ _ h :=
    (outputAt_reads sending).after (close_leaves _ r (Leaves.refl [] _)) (by decide) (handlerOf_outputAt c r h)
  answer t r _ p _ _ := (outputAt_reads sending).after (answer_leaves t r p) (by decide)
  straps _ _ h := ⟨h.composer, h.port, h.line, h.handed⟩
  receiveM t frame _ := (outputAt_reads sending).after (receiveM_leaves t frame) (by decide)
  receiveC t frame _ h := by
    unfold State.receiveC
    split
    · split
      · next st judged =>
        refine (h.setLinkC (h.port.takeStatus (judgeLinkC_ranges judged)) ?_).deliver _
        unfold LinkC.takeStatus LinkC.thermalStep
        split <;> [rfl; split <;> [split <;> rfl; rfl]]
      · exact (outputAt_reads sending).after (countMalformed_leaves t) (by decide) h
    · exact h
  edge t high h := by
    unfold State.edge State.whenRunning
    split
    · exact OutputAt.deliver _ ⟨h.composer, h.port, fun _ => rfl, h.handed⟩
    · next held => exact ⟨h.composer, h.port, fun running => absurd running held, h.handed⟩
  loseSignal t link mid _ h := by
    have counted (c : Bool) : OutputAt sending (if c then t.countMalformed else t) := by
      split <;> [exact (outputAt_reads sending).after (countMalformed_leaves t) (by decide) h; exact h]
    cases link with
    | m =>
      have done := counted (mid && t.linkMSynced)
      exact OutputAt.deliver _ ⟨done.composer, done.port, done.line, done.handed⟩
    | c =>
      have done := counted (mid && t.linkC.synced)
      exact (done.setLinkC (l := ⟨_, _, _, _, _, _, false⟩) done.port rfl).deliver _
  regainSync t link _ h := by
    cases link with
    | m =>
      simp only [State.regainSync]
      split <;> [exact h; exact OutputAt.deliver _ ⟨h.composer, h.port, h.line, h.handed⟩]
    | c =>
      simp only [State.regainSync]
      split <;> [exact h; exact (h.setLinkC (l := ⟨_, _, _, _, _, _, true⟩) h.port rfl).deliver _]
  finishClone t r _ _ := (outputAt_reads sending).after (finishClone_leaves t r) (by decide)
  finishCommit t r _ _ := (outputAt_reads sending).after (finishCommit_leaves t r) (by decide)
  completeAudit t _ := (outputAt_reads sending).after (completeAudit_leaves t) (by decide)
  endPulse t _ := (outputAt_reads sending).after (endPulse_leaves t) (by decide)

/-- R95: the transmitter holds the reference frame while it is being sent. -/
def Place.isSending : Place → Bool
  | .sending _ => true
  | _ => false

theorem takeBoundary_outputAt (fig : ArcFigures) (h : OutputAt sending s) : OutputAt sending (s.takeBoundary fig) := by
  have reads := outputAt_reads sending
  exact takeBoundary_keeps (fun t g => OutputAt.deliver g) (fun t n => reads.after (setEvents_leaves t _ n) (by decide))
    (fun t h => h.setComposer h.composer) (fun t d _ => reads.after (swapped_leaves t d) (by decide))
    (fun t fig e o => reads.after (boundaryBlocks_leaves t fig e o) (by decide)) fig h

theorem outputAt_keptByArrivals : KeptByArrivals (fun _ => True) fun p => OutputAt p.isSending where
  aside p t x _ h :=
    (outputAt_keptByInputs _).aside x (fun _ => hold_outputAt _ _ rfl) (fun _ => driveReset_outputAt h) h
  abandoned _ _ held h := ⟨h.composer, h.port, h.line, .inl (h.handed.resolve_right fun on => held on.2)⟩
  check _ _ h := h
  noteSet t _ := (outputAt_reads _).after (noteSet_leaves t _) (by decide)
  intakeRelease t set _ := (outputAt_reads _).after (intakeRelease_leaves t set) (by decide)
  noteReleased t set := (outputAt_reads _).after (noteReleased_leaves t set) (by decide)
  track t set _ := (outputAt_reads _).after (track_leaves t _ _) (by decide)
  feedWindows t _ i v := (outputAt_reads _).after (feedWindows_leaves t i v) (by decide)
  compose t _ count out h :=
    ((outputAt_reads _).after (setHealth_leaves _ _) (by decide)
      (h.setComposer (c := t.composer.countdown.noteSource out.source out.demand) h.composer.countdown)).deliver _
  sendC t _ frame running h := ⟨h.composer, h.port, h.line, .inr ⟨rfl, running⟩⟩
  leaveC t _ count h := by
    have left : OutputAt false t.leaveC := ⟨h.composer, h.port, h.line, .inl rfl⟩
    exact (left.setLinkC left.port.countSet rfl).deliver _
  done _ h := h
  closeCycle t _ := (outputAt_reads _).after (closeCycle_leaves t) (by decide)
  takeBoundary _ fig _ := takeBoundary_outputAt fig
  ring _ _ _ h := ⟨h.composer, h.port, h.line, h.handed⟩
  countDuplicate t := (outputAt_reads _).after (setCounters_leaves t _) (by decide)
  countLate t := (outputAt_reads _).after (setCounters_leaves t _) (by decide)
  countResync t := (outputAt_reads _).after (setCounters_leaves t _) (by decide)
  countHealth t _ _ := (outputAt_reads _).after (setHealth_leaves t _) (by decide)
  record t body := (outputAt_reads _).after (record_leaves t body) (by decide)

/-! ### The resets (R168 to R170) -/

/-- R168: the end of a reset reads the level of CBLK. -/
theorem endReset_outputAt (kind : ResetKind) (result : SelfTestResult) (h : OutputAt false s) :
    OutputAt false (s.endReset kind result) :=
  OutputAt.deliver _ ⟨h.composer, LinkC.afterReset_ok _ _ _, fun _ => rfl, .inl (h.handed.resolve_right (by simp))⟩

theorem OutputAt.startSelfTest (phase : RunPhase) (held : phase ≠ .running) (straps : BitVec 6)
    (h : OutputAt false s) : OutputAt false (s.startSelfTest phase straps) :=
  ⟨h.composer, h.port, fun running => absurd running held, .inl (h.handed.resolve_right (by simp))⟩

theorem holdEnds_outputAt (cause : HoldEnd) (straps : BitVec 6) (h : OutputAt false s) :
    OutputAt false (s.holdEnds cause straps) := by
  have lineHigh : OutputAt false (s.setResetN true) := ⟨h.composer, h.port, h.line, h.handed⟩
  cases cause with
  | supplyReached =>
    simp only [State.holdEnds, State.supplyReached]
    split <;> [exact h.startSelfTest _ (by decide) _; exact h]
  | resetLineHigh =>
    simp only [State.holdEnds, State.resetReleased]
    split <;> [exact lineHigh.startSelfTest _ (by decide) _; exact endReset_outputAt _ _ lineHigh; exact lineHigh]

theorem endSelfTest_outputAt (h : OutputAt false s) : OutputAt false s.endSelfTest := by
  have stored (x : TableStore) : OutputAt false (s.setStore x) := ⟨h.composer, h.port, h.line, h.handed⟩
  unfold State.endSelfTest
  split
  · unfold State.powerOnTest
    generalize TableStore.initialised = initial
    simp only
    split
    · exact endReset_outputAt _ _ (stored initial)
    · exact ⟨h.composer, h.port, nofun, .inl (h.handed.resolve_right (by simp))⟩
  · unfold State.hardTest
    generalize TableStore.initialised = initial
    split
    · exact endReset_outputAt _ _ h
    · exact endReset_outputAt _ _ (stored initial)
  · exact h

theorem outputAt_keptByCommands : KeptByCommands (OutputAt false) where
  toKeptByInputs := outputAt_keptByInputs false
  queue _ _ h := ⟨h.composer, h.port, h.line, h.handed⟩
  supplyStart _ _ := hold_outputAt _ _ rfl
  driveReset _ := driveReset_outputAt
  holdEnds _ cause straps := holdEnds_outputAt cause straps
  endSelfTest _ := endSelfTest_outputAt
  finishSoftReset t r _ _ h := by
    have blocks : OutputAt false t.softBlocks :=
      outputAt_of_reset t.bank t.linkC.synced rfl rfl (h.handed.resolve_right (by simp))
    exact (outputAt_reads false).after (answer_leaves _ r _) (by decide) (blocks.deliver _)
  takeNext _ _ running := outputAt_keptByArrivals.takeNext (fun _ _ => trivial) running

end

theorem step_outputInv {s t : State} (h : s.OutputInv) (run : step s = .next t) : t.OutputInv :=
  t.outputInv_iff.2 (outputAt_keptByCommands.step (s.outputInv_iff.1 h) run)

end Sys2Proof.Machine

/-! The health block, supervision's counts and the audit counter keep their ranges (R109, R134, R182); with them O21. -/

namespace Sys2Proof.Machine

/-! ### The health block (R182 to R188) -/

/-- R182, R185: the ranges of one index of the health block. -/
structure Health.AttributeOk (h : Health) (a : Fin 5) : Prop where
  raw : h.raw[a] ≤ 65535
  worst : 1 ≤ h.worst[a]
  worst_le : h.worst[a] ≤ h.value[a]
  value : h.value[a] ≤ 253
  threshold : h.threshold[a] ≤ 253

section
variable {h : Health}

theorem Health.ok_iff : h.Ok ↔ (∀ a, h.AttributeOk a) ∧ h.interval < 5000 := by
  refine and_congr_left fun _ => forall_congr' fun a => ?_
  exact ⟨fun ⟨raw, worst, le, value, threshold⟩ => ⟨raw, worst, le, value, threshold⟩,
    fun ⟨raw, worst, le, value, threshold⟩ => ⟨raw, worst, le, value, threshold⟩⟩

theorem Health.afterReset_ok : Health.afterReset.Ok := by decide

/-- R182: a raw count stops at 65535. -/
theorem Health.AttributeOk.count {a : Fin 5} (ok : h.AttributeOk a) (c : Attribute) (n : Nat) :
    (h.count c n).AttributeOk a where
  raw := by
    simp only [Health.count, Fin.getElem_fin, Vector.getElem_set]
    split <;> [exact countUp_le _ _; exact ok.raw]
  worst := ok.worst
  worst_le := ok.worst_le
  value := ok.value
  threshold := ok.threshold

theorem Health.Ok.count (ok : h.Ok) (a : Attribute) (n : Nat) : (h.count a n).Ok := by
  obtain ⟨each, interval⟩ := Health.ok_iff.1 ok
  exact Health.ok_iff.2 ⟨fun b => (each b).count a n, interval⟩

/-- R188: a threshold within its range. -/
theorem Health.Ok.setThreshold (ok : h.Ok) {i n : Nat} (hi : i < 5) (range : n ≤ 253) :
    Health.Ok (Health.evaluate { h with threshold := h.threshold.set i n hi }) := by
  obtain ⟨each, interval⟩ := Health.ok_iff.1 ok
  refine Health.ok_iff.2 ⟨fun b => ?_, interval⟩
  obtain ⟨raw, worst, le, value, threshold⟩ := each b
  refine ⟨raw, worst, le, value, ?_⟩
  simp only [Health.evaluate, Fin.getElem_fin, Vector.getElem_set]
  split <;> [exact range; exact threshold]

theorem Health.Ok.softReset (ok : h.Ok) : h.softReset.Ok := by
  obtain ⟨each, -⟩ := Health.ok_iff.1 ok
  refine Health.ok_iff.2 ⟨fun b => ?_, (by decide : (0 : Nat) < 5000)⟩
  obtain ⟨-, worst, le, value, threshold⟩ := each b
  exact ⟨by simp [Health.softReset], worst, le, value, threshold⟩

theorem healthValue_mem (a : Attribute) (raw : Nat) : 1 ≤ healthValue a raw ∧ healthValue a raw ≤ 253 := by
  unfold healthValue
  generalize raw / divisor a = quotient
  omega

/-- R185: the end of an interval gives values from 1 to 253, the worst at most the latest. -/
theorem Health.endInterval_ok (each : ∀ a, h.AttributeOk a) : h.endInterval.Ok := by
  refine Health.ok_iff.2 ⟨fun a => ?_, (by decide : (0 : Nat) < 5000)⟩
  obtain ⟨low, high⟩ := healthValue_mem a h.raw[a]
  have worst := (each a).worst
  constructor
  · simp [Health.endInterval, Health.evaluate]
  · simpa [Health.endInterval, Health.evaluate] using ⟨worst, low⟩
  · simp [Health.endInterval, Health.evaluate]
  · simpa [Health.endInterval, Health.evaluate] using high
  · exact (each a).threshold

/-- R184, R185: an interval of at most 5000 cycles ends when it is full. -/
theorem Health.Ok.onBoundary (ok : h.Ok) {interval : Nat} (range : interval ≤ 5000) (f g : Bool) :
    (h.onBoundary interval f g).Ok := by
  obtain ⟨each, -⟩ := Health.ok_iff.1 ok
  have counted (a : Fin 5) : (h.countCycle f g).AttributeOk a := by
    obtain ⟨raw, worst, le, value, threshold⟩ :=
      (((each a).count fluctuationIndex (if f then 1 else 0)).count headroomIndex (if g then 1 else 0)).count
        converterIndex (if h.blockedSeen then 1 else 0)
    exact ⟨raw, worst, le, value, threshold⟩
  simp only [Health.onBoundary]
  split
  · exact Health.endInterval_ok counted
  · next short => exact Health.ok_iff.2 ⟨counted, by omega⟩

end

/-! ### Supervision's counts (R134, R140, R146) -/

/-- R134: the quiet timer and the term runs. -/
structure Supervision.CountsOk (v : Supervision) : Prop where
  quietTimer : v.quietTimer ≤ 65535
  termRuns : ∀ n : Fin 4, v.termRuns[n] ≤ 255

section
variable {v : Supervision}

theorem Supervision.countsOk_afterReset (trip : Bool) : (Supervision.afterReset trip).CountsOk :=
  ⟨Nat.zero_le _, by simp [Supervision.afterReset]⟩

theorem Supervision.CountsOk.wake (ok : v.CountsOk) : v.wake.CountsOk := ⟨Nat.zero_le _, ok.termRuns⟩

theorem Supervision.CountsOk.setArcs (ok : v.CountsOk) (arcs : Vector ArcState 6) :
    Supervision.CountsOk { v with arcs := arcs } := ⟨ok.quietTimer, ok.termRuns⟩

theorem Supervision.CountsOk.clearTrip (ok : v.CountsOk) (trip : Bool) :
    Supervision.CountsOk { v with trip := trip, termRuns := Vector.replicate 4 0 } := ⟨ok.quietTimer, by simp⟩

theorem Supervision.CountsOk.quietStep (ok : v.CountsOk) (b : Bank) : (quietStep b v).CountsOk := by
  refine ⟨?_, by simpa using ok.termRuns⟩
  unfold Machine.quietStep
  split
  · split <;> [exact ok.quietTimer; exact ok.wake.quietTimer]
  · split <;> [exact countUp_le _ _; exact Nat.zero_le _]

theorem Supervision.CountsOk.arcsAndQuiet {s : State} (ok : s.supervision.CountsOk) (fig : ArcFigures) :
    (s.arcsAndQuiet fig).1.CountsOk := by
  rw [State.arcsAndQuiet_fst]
  have passed : (s.passedBy fig s.supervision feederNumbers).CountsOk := by
    refine ⟨?_, ok.termRuns⟩
    simp only [State.passedBy_quietTimer]
    split <;> [exact Nat.zero_le _; exact ok.quietTimer]
  exact passed.quietStep _

/-- R146: a term's run stops at 255. -/
theorem Supervision.CountsOk.trips {s : State} (ok : s.supervision.CountsOk) : s.trips.1.CountsOk := by
  refine ⟨ok.quietTimer, fun n => ?_⟩
  simp only [State.trips, termsStep, nextRuns, termStep, Fin.getElem_fin, Vector.getElem_ofFn]
  split <;> [exact Nat.min_le_left _ _; exact Nat.zero_le _]

theorem Supervision.CountsOk.onSwap (ok : v.CountsOk) (old new : Bank) : (v.onSwap old new).CountsOk := by
  have cleared : Supervision.CountsOk
      { v with arcs := darken v.arcs (switchedOff old new), termRuns := Vector.replicate 4 0 } :=
    ⟨ok.quietTimer, by simp⟩
  unfold Supervision.onSwap
  split <;> [exact cleared; exact cleared.wake]

end

theorem TableStore.auditStep_counter_le {t : TableStore} {cycles : Nat} (range : cycles ≤ 4096) :
    (t.auditStep cycles).auditCounter ≤ 4096 := by
  simp only [TableStore.auditStep]
  split
  · split <;> simp only <;> omega
  · simp only; omega

/-! ### The invariant -/

/-- The invariant of the per-cycle counts, part by part. -/
structure CountsOk (s : State) : Prop where
  health : s.health.Ok
  supervision : s.supervision.CountsOk
  audit : s.store.auditCounter ≤ 4096

theorem State.cycleCountsInv_iff (s : State) : s.CycleCountsInv ↔ CountsOk s :=
  ⟨fun ⟨health, timer, runs, audit⟩ => ⟨health, ⟨timer, runs⟩, audit⟩,
    fun ⟨health, ⟨timer, runs⟩, audit⟩ => ⟨health, timer, runs, audit⟩⟩

section
variable {s t : State}

theorem countsOk_reads : Reads [.health, .supervision, .auditCounter] CountsOk := by
  intro s t same h
  have health : t.health = s.health := same .health (by decide)
  have supervision : t.supervision = s.supervision := same .supervision (by decide)
  have audit : t.store.auditCounter = s.store.auditCounter := same .auditCounter (by decide)
  exact ⟨health ▸ h.health, supervision ▸ h.supervision, audit ▸ h.audit⟩

theorem CountsOk.deliver (g : List (List Offer)) (h : CountsOk s) : CountsOk (s.deliver g) :=
  countsOk_reads.after (deliver_leaves s g) (by decide) h

theorem CountsOk.setHealth {x : Health} (h : CountsOk s) (ok : x.Ok) : CountsOk (s.setHealth x) :=
  ⟨ok, h.supervision, h.audit⟩

theorem CountsOk.setSupervision {v : Supervision} (h : CountsOk s) (ok : v.CountsOk) : CountsOk (s.setSupervision v) :=
  ⟨h.health, ok, h.audit⟩

theorem CountsOk.swapped (d : Word) (h : CountsOk s) : CountsOk (s.swapped d) := by
  refine ⟨h.health, ?_, h.audit⟩
  rw [State.swapped_supervision]
  exact h.supervision.onSwap _ _

theorem hold_countsOk (s : State) (phase : RunPhase) : CountsOk (s.hold phase) :=
  ⟨Health.afterReset_ok, Supervision.countsOk_afterReset _, Nat.zero_le _⟩

theorem driveReset_countsOk (h : CountsOk s) : CountsOk s.driveReset := by
  unfold State.driveReset
  split <;> first | exact ⟨h.health, h.supervision, h.audit⟩ | exact hold_countsOk _ _

theorem handlerOf_countsOk (c : RequestCode) (r : Request) (h : CountsOk s) : CountsOk (handlerOf c s r).state := by
  have frame (apart : ∀ p ∈ [Part.health, .supervision, .auditCounter], p ∉ c.handles) :
      CountsOk (handlerOf c s r).state := countsOk_reads.after (handlerOf_leaves s c r) apart h
  cases c with
  | wake => exact (h.setSupervision h.supervision.wake).deliver _
  | clearTrip => exact h.setSupervision (h.supervision.clearTrip false)
  | setThreshold =>
    simp only [handlerOf, handleSetThreshold]
    split
    · next legal => exact (h.setHealth (h.health.setThreshold _ legal.2.2)).deliver _
    · exact h
  | _ => exact frame (by decide)

theorem countsOk_keptByInputs : KeptByInputs CountsOk where
  handle t c r _ _ _ h :=
    countsOk_reads.after (close_leaves _ r (Leaves.refl [] _)) (by decide) (handlerOf_countsOk c r h)
  answer t r _ p _ _ := countsOk_reads.after (answer_leaves t r p) (by decide)
  straps t _ := countsOk_reads.after (setPins_leaves t _) (by decide)
  receiveM t frame _ := countsOk_reads.after (receiveM_leaves t frame) (by decide)
  receiveC t frame _ := countsOk_reads.after (receiveC_leaves t frame) (by decide)
  edge t high := countsOk_reads.after (edge_leaves t high) (by decide)
  loseSignal t link mid _ := countsOk_reads.after (loseSignal_leaves t link mid) (by decide)
  regainSync t link _ := countsOk_reads.after (regainSync_leaves t link) (by decide)
  finishClone t r _ _ := countsOk_reads.after (finishClone_leaves t r) (by decide)
  finishCommit _ r _ service h :=
    finishCommit_keeps r service.running (fun _ frame => countsOk_reads.after frame (by decide) h)
      (fun _ d _ h => h.swapped d) fun _ g h => h.deliver g
  completeAudit t _ := countsOk_reads.after (completeAudit_leaves t) (by decide)
  endPulse t _ := countsOk_reads.after (endPulse_leaves t) (by decide)

/-- R135, R184: the boundary's counts, each within its parameter's range. -/
theorem CountsOk.boundaryBlocks (fig : ArcFigures) (e : List Offer) (o : List (List Offer)) (h : CountsOk s) :
    CountsOk (s.boundaryBlocks fig e o) := by
  have interval := (s.bank.count_mem .healthInterval (by decide)).2
  have cycles := (s.bank.count_mem .auditCycles (by decide)).2
  simp only [Param.hi] at interval cycles
  have counted : CountsOk s.healthBoundary := h.setHealth (h.health.onBoundary (by omega) _ _)
  have arcs := counted.supervision.arcsAndQuiet fig
  rw [State.boundaryBlocks_eq]
  refine CountsOk.deliver _ ⟨counted.health, ?_, TableStore.auditStep_counter_le (by omega)⟩
  exact Supervision.CountsOk.trips (s := s.healthBoundary.setSupervision (s.healthBoundary.arcsAndQuiet fig).1) arcs

theorem countsOk_keptByArrivals : KeptByArrivals (fun _ => True) fun _ => CountsOk where
  aside _ t x _ h := countsOk_keptByInputs.aside x (fun _ => hold_countsOk _ _) (fun _ => driveReset_countsOk h) h
  abandoned _ _ _ h := h
  check _ _ h := h
  noteSet t _ := countsOk_reads.after (noteSet_leaves t _) (by decide)
  intakeRelease t set _ h := by
    obtain ⟨g, eq⟩ := t.intakeRelease_eq_deliver set
    have cleared : CountsOk
        ((t.setIntake (t.intake.withSources t.bank (nextSources t.bank set t.intake.sources))).clearWindows
          (lostFeeders t.bank t.intake.sources (nextSources t.bank set t.intake.sources))) :=
      countsOk_reads.after (clearWindows_leaves _ _) (by decide) ⟨h.health, h.supervision, h.audit⟩
    exact eq ▸ (cleared.setSupervision (h.supervision.setArcs _)).deliver g
  noteReleased _ _ h := ⟨h.health.count _ _, h.supervision, h.audit⟩
  track t set _ := countsOk_reads.after (track_leaves t _ _) (by decide)
  feedWindows t _ i v := countsOk_reads.after (feedWindows_leaves t i v) (by decide)
  compose t _ count out h :=
    CountsOk.deliver _ ⟨⟨h.health.1, h.health.2⟩, h.supervision, h.audit⟩
  sendC t _ frame _ := countsOk_reads.after (sendC_leaves t frame) (by decide)
  leaveC t _ count := countsOk_reads.after (leaveC_leaves t count) (by decide)
  done _ h := h
  closeCycle t _ := countsOk_reads.after (closeCycle_leaves t) (by decide)
  takeBoundary _ fig _ h :=
    takeBoundary_keeps (fun _ g h => h.deliver g) (fun t n => countsOk_reads.after (setEvents_leaves t _ n) (by decide))
      (fun t => countsOk_reads.after (rollFlags_leaves t) (by decide)) (fun _ d _ h => h.swapped d)
      (fun _ fig e o h => h.boundaryBlocks fig e o) fig h
  ring _ _ _ h := ⟨h.health, h.supervision, h.audit⟩
  countDuplicate t := countsOk_reads.after (setCounters_leaves t _) (by decide)
  countLate t := countsOk_reads.after (setCounters_leaves t _) (by decide)
  countResync t := countsOk_reads.after (setCounters_leaves t _) (by decide)
  countHealth _ a n h := h.setHealth (h.health.count a n)
  record t body := countsOk_reads.after (record_leaves t body) (by decide)

/-! ### The resets -/

theorem CountsOk.endReset (kind : ResetKind) (result : SelfTestResult) (h : CountsOk s) :
    CountsOk (s.endReset kind result) :=
  CountsOk.deliver _ ⟨h.health, h.supervision, h.audit⟩

theorem CountsOk.holdEnds (cause : HoldEnd) (straps : BitVec 6) (h : CountsOk s) :
    CountsOk (s.holdEnds cause straps) := by
  have same (t : State) (health : t.health = s.health) (supervision : t.supervision = s.supervision)
      (store : t.store = s.store) : CountsOk t := ⟨health ▸ h.health, supervision ▸ h.supervision, store ▸ h.audit⟩
  cases cause with
  | supplyReached =>
    simp only [State.holdEnds, State.supplyReached]
    split <;> exact same _ rfl rfl rfl
  | resetLineHigh =>
    simp only [State.holdEnds, State.resetReleased]
    split <;> exact same _ rfl rfl rfl

theorem CountsOk.endSelfTest (h : CountsOk s) : CountsOk s.endSelfTest := by
  have audit : TableStore.initialised.auditCounter ≤ 4096 := by rw [TableStore.initialised]; exact Nat.zero_le _
  revert audit
  unfold State.endSelfTest State.powerOnTest State.hardTest
  generalize TableStore.initialised = initial
  intro audit
  have stored : CountsOk (s.setStore initial) := ⟨h.health, h.supervision, audit⟩
  split
  · simp only
    split <;> [exact stored.endReset _ _; exact ⟨h.health, h.supervision, stored.audit⟩]
  · split <;> [exact h.endReset _ _; exact stored.endReset _ _]
  · exact h

theorem countsOk_keptByCommands : KeptByCommands CountsOk where
  toKeptByInputs := countsOk_keptByInputs
  queue _ _ h := ⟨h.health, h.supervision, h.audit⟩
  supplyStart _ _ := hold_countsOk _ _
  driveReset _ := driveReset_countsOk
  holdEnds _ cause straps h := h.holdEnds cause straps
  endSelfTest _ h := h.endSelfTest
  finishSoftReset t r _ _ h := by
    have blocks : CountsOk t.softBlocks := ⟨h.health.softReset, Supervision.countsOk_afterReset _, Nat.zero_le _⟩
    exact countsOk_reads.after (answer_leaves _ r _) (by decide) (blocks.deliver _)
  takeNext _ _ running := countsOk_keptByArrivals.takeNext (fun _ _ => trivial) running

end

theorem step_cycleCountsInv {s t : State} (h : s.CycleCountsInv) (run : step s = .next t) : t.CycleCountsInv :=
  t.cycleCountsInv_iff.2 (countsOk_keptByCommands.step (s.cycleCountsInv_iff.1 h) run)

/-- Settles O21: the tracker, the composer with the port, and the counts each keep an invariant of their own. -/
theorem trackerAndCountsKeepTheirRanges : Obligations.TrackerAndCountsKeepTheirRanges :=
  ⟨fun _ _ => step_trackerInv, fun _ _ run => ⟨fun h => step_outputInv h run, fun h => step_cycleCountsInv h run⟩⟩

end Sys2Proof.Machine

/-! What each protection state says of the code, the attempts, the operation in service and the pending swap (R152 to
R165), and what FROZEN keeps (R165). -/

namespace Sys2Proof.Machine

/-! ### The gate (R159) -/

/-- R159: what needs OPEN or UNLOCKED is let through in no other state. -/
theorem writable_of_gate {p : Protection} {c : RequestCode}
    (needs : c ∈ [RequestCode.writeTable, .clone, .commitSwap, .cancelSwap, .inject, .setThreshold, .setAttentionMode,
      .resetController, .setCode]) (through : gate p c = none) : p = .opened ∨ p = .unlocked := by
  cases p with
  | opened => exact .inl rfl
  | unlocked => exact .inr rfl
  | locked =>
    have refused := gate_locked_iff.2 (List.mem_append_left [RequestCode.clearCode] needs)
    exact absurd (through.symm.trans refused) nofun
  | frozen =>
    have refused := gate_frozen_iff.2 (List.mem_append_left [RequestCode.clearCode, .unlock, .lock] needs)
    exact absurd (through.symm.trans refused) nofun

/-- R164: LOCK and UNLOCK are let through only where there is a code. -/
theorem coded_of_gate {p : Protection} {c : RequestCode} (needs : c = .lock ∨ c = .unlock)
    (through : gate p c = none) : p = .unlocked ∨ p = .locked := by
  rcases needs with rfl | rfl <;> revert through <;> cases p <;> simp [gate]

/-! ### The invariant, part by part -/

/-- R152, R154, R160 to R165: the engine's own ranges, and what its protection state says of code and attempts. -/
structure Engine.FormOk (e : Engine) : Prop where
  queue : e.queue.length ≤ 4
  overrun : e.overrun ≤ 65535
  attempts : e.attempts ≤ 5
  tried : e.attempts ≠ 0 → e.protection = .locked ∨ e.protection = .frozen
  opened : e.protection = .opened → e.code = none
  coded : e.protection = .unlocked ∨ e.protection = .locked → e.code.isSome

/-- What an operation in service says of the protection state and the queue. -/
def Engine.ServiceOk (e : Engine) : Prop :=
  ∀ op ∈ e.operation, (e.protection = .opened ∨ e.protection = .unlocked)
    ∧ ∃ r ∈ e.queue.head?, RequestCode.ofWord r.code = some op.code

/-- The engine's part of the invariant, the pending swap apart. -/
structure EngineAlone (s : State) : Prop where
  form : s.engine.FormOk
  service : s.engine.ServiceOk
  held : s.phase ≠ .running → s.engine.protection = .opened ∧ s.engine.queue = [] ∧ s.engine.operation = none

/-- Where a swap may be pending. -/
structure SwapMayWait (s : State) : Prop where
  thawed : s.engine.protection ≠ .frozen
  service : ∀ op ∈ s.engine.operation, op = .softReset
  running : s.phase = .running
  synced : s.ring.synced = true

structure EngineOk (s : State) : Prop where
  alone : EngineAlone s
  swap : s.store.pendingSwap = none ∨ SwapMayWait s

theorem State.engineInv_iff (s : State) : s.EngineInv ↔ EngineOk s := by
  constructor
  · rintro ⟨queue, overrun, attempts, tried, opened, coded, frozen, service, idle, held⟩
    refine ⟨⟨⟨queue, overrun, attempts, tried, opened, coded⟩, fun op mem => ?_, fun h => ?_⟩, ?_⟩
    · obtain ⟨began, head, -⟩ := service op mem
      exact ⟨began, head⟩
    · obtain ⟨opened, empty, none, -⟩ := held h
      exact ⟨opened, empty, none⟩
    · by_contra waits
      obtain ⟨swap, may⟩ := not_or.1 waits
      refine may ⟨fun f => swap (frozen f), fun op mem => ?_, ?_, ?_⟩
      · by_contra other
        exact swap ((service op mem).2.2 other)
      · by_contra h
        exact swap (held h).2.2.2
      · by_contra unsynced
        refine swap (idle ?_ (Bool.eq_false_iff.2 unsynced))
        by_contra h
        exact swap (held h).2.2.2
  · rintro ⟨⟨⟨queue, overrun, attempts, tried, opened, coded⟩, service, held⟩, swap⟩
    have none_of (never : ¬ SwapMayWait s) : s.store.pendingSwap = none := swap.resolve_right never
    refine ⟨queue, overrun, attempts, tried, opened, coded, fun f => none_of fun may => may.thawed f,
      fun op mem => ?_, fun _ unsynced => none_of fun may => ?_, fun h => ?_⟩
    · obtain ⟨began, head⟩ := service op mem
      exact ⟨began, head, fun other => none_of fun may => other (may.service op mem)⟩
    · exact Bool.false_ne_true (unsynced.symm.trans may.synced)
    · obtain ⟨opened, empty, none⟩ := held h
      exact ⟨opened, empty, none, none_of fun may => h may.running⟩

section
variable {s t : State}

/-- The invariant depends on the engine, the phase, the pending swap and the ring's being SYNCED. -/
theorem EngineOk.same (h : EngineOk s) (engine : t.engine = s.engine) (phase : t.phase = s.phase)
    (swap : t.store.pendingSwap = s.store.pendingSwap) (ring : s.ring.synced = true → t.ring.synced = true) :
    EngineOk t := by
  obtain ⟨⟨form, service, held⟩, pending⟩ := h
  refine ⟨⟨engine ▸ form, engine ▸ service, ?_⟩, ?_⟩
  · rw [phase, engine]; exact held
  · rw [swap]
    exact pending.imp_right fun ⟨thawed, service, running, synced⟩ =>
      ⟨engine ▸ thawed, engine ▸ service, phase.trans running, ring synced⟩

theorem engineOk_reads : Reads [.phase, .ring, .swap, .engine] EngineOk := by
  intro s t same h
  have ring : t.ring = { s.ring with waiting := t.ring.waiting } := same .ring (by decide)
  exact h.same (same .engine (by decide)) (same .phase (by decide)) (same .swap (by decide)) fun synced =>
    ring ▸ synced

/-- With no swap pending the engine's part is all. -/
theorem EngineAlone.ok (h : EngineAlone s) (none : s.store.pendingSwap = none) : EngineOk s := ⟨h, .inl none⟩

/-- An update of the engine in a running part that leaves no operation in service. -/
theorem EngineOk.setEngine {e : Engine} (h : EngineOk s) (running : s.phase = .running) (form : e.FormOk)
    (free : e.operation = none) (thawed : e.protection = .frozen → s.store.pendingSwap = none) :
    EngineOk (s.setEngine e) := by
  have idle : ∀ op ∈ e.operation, op = Operation.softReset := by simp [free]
  refine ⟨⟨form, by simp [Engine.ServiceOk, free], fun held => absurd running held⟩, ?_⟩
  by_cases pending : s.store.pendingSwap = none
  · exact .inl pending
  · have may := h.swap.resolve_left pending
    exact .inr ⟨fun f => pending (thawed f), idle, running, may.synced⟩

/-! ### Requests -/

/-- R157: the request answered leaves the queue, with no operation in service. -/
theorem EngineAlone.answer (h : EngineAlone s) (r : Request) (p : Reply) : EngineAlone (s.answer r p) := by
  have sent : EngineAlone (if r.broadcast then s else s.sendM (s.responseFrame r p)) := by
    split <;> [exact h; exact ⟨h.form, h.service, h.held⟩]
  unfold State.answer
  revert sent
  generalize (if r.broadcast then s else s.sendM (s.responseFrame r p)) = t
  rintro ⟨⟨queue, overrun, attempts, tried, opened, coded⟩, -, held⟩
  refine ⟨⟨?_, overrun, attempts, tried, opened, coded⟩, nofun, fun h => ?_⟩
  · have shorter : t.engine.queue.tail.length ≤ t.engine.queue.length := by simp
    exact shorter.trans queue
  · obtain ⟨opened, empty, -⟩ := held h
    exact ⟨opened, by simp [State.removeHead, empty], rfl⟩

theorem State.answer_swapMayWait (r : Request) (p : Reply) (thawed : s.engine.protection ≠ .frozen)
    (running : s.phase = .running) (synced : s.ring.synced = true) : SwapMayWait (s.answer r p) := by
  unfold State.answer
  split <;> exact ⟨thawed, nofun, running, synced⟩

theorem EngineOk.answer (h : EngineOk s) (r : Request) (p : Reply) : EngineOk (s.answer r p) := by
  refine ⟨h.alone.answer r p, ?_⟩
  rw [(answer_leaves s r p) .swap (by decide)]
  exact h.swap.imp_right fun may => s.answer_swapMayWait r p may.thawed may.running may.synced

/-- R154: a request taken joins the end of the queue. -/
theorem EngineOk.takeRequest (h : EngineOk s) (running : s.phase = .running) (r : Request) :
    EngineOk (s.takeRequest r) := by
  obtain ⟨⟨⟨queue, overrun, attempts, tried, opened, coded⟩, service, held⟩, swap⟩ := h
  unfold State.takeRequest Engine.offerRequest
  split
  · split
    · next room =>
      refine ⟨⟨⟨?_, overrun, attempts, tried, opened, coded⟩, fun op mem => ?_, fun h => absurd running h⟩,
        swap.imp_right fun may => ⟨may.thawed, may.service, running, may.synced⟩⟩
      · simp only [State.setEngine, List.length_append, List.length_singleton]; omega
      · obtain ⟨began, head, isHead, code⟩ := service op mem
        refine ⟨began, head, ?_, code⟩
        simp only [State.setEngine, List.head?_append, Option.mem_def] at isHead ⊢
        simp [isHead]
    · exact ⟨⟨⟨queue, countUp_le _ _, attempts, tried, opened, coded⟩, service, held⟩,
        swap.imp_right fun may => ⟨may.thawed, may.service, running, may.synced⟩⟩
  · exact ⟨⟨⟨queue, overrun, attempts, tried, opened, coded⟩, service, held⟩, swap⟩

/-- R121, R122, R169: an operation begins in OPEN or UNLOCKED. -/
theorem EngineOk.goesOn {c : RequestCode} {r : Request} {rest : List Request} (h : EngineOk s) (op : Operation)
    (head : AtHead s c r rest) (code : c = op.code)
    (began : s.engine.protection = .opened ∨ s.engine.protection = .unlocked)
    (swap : op = .softReset ∨ s.store.pendingSwap = none) : EngineOk (s.goesOn op).state := by
  obtain ⟨⟨⟨queue, overrun, attempts, tried, opened, coded⟩, -, -⟩, waits⟩ := h
  refine ⟨⟨⟨queue, overrun, attempts, tried, opened, coded⟩, fun o mem => ?_, fun h => absurd head.running h⟩, ?_⟩
  · cases mem
    exact ⟨began, r, by simp [State.goesOn, State.setEngine, head.queue], head.code.trans (congrArg some code)⟩
  · rcases waits with none | may
    · exact .inl none
    · refine swap.symm.imp id fun soft => ⟨may.thawed, fun o mem => ?_, may.running, may.synced⟩
      cases mem
      exact soft

/-- R162, R163: a code that does not match is counted up to the fifth time. -/
theorem handleUnlock_engineOk {r r' : Request} {rest : List Request} (head : AtHead s .unlock r' rest)
    (through : gate s.engine.protection .unlock = none) (h : EngineOk s) : EngineOk (handleUnlock s r).state := by
  obtain ⟨queue, overrun, attempts, tried, opened, coded⟩ := h.alone.form
  have code := coded (coded_of_gate (.inr rfl) through)
  unfold handleUnlock
  split
  · exact h
  · next locked =>
    have locked := (coded_of_gate (.inr rfl) through).resolve_left locked
    have thawed : s.engine.protection ≠ .frozen := locked ▸ nofun
    split
    · exact h
    · next open' =>
      split
      · exact h.setEngine head.running ⟨queue, overrun, Nat.zero_le _, (absurd rfl ·), nofun, fun _ => code⟩ head.free
          nofun
      · have more : s.engine.attempts + 1 ≤ 5 := by
          have five : s.engine.attempts ≠ 5 := by simpa [Engine.expiry] using open'
          omega
        have missed : EngineOk (s.setEngine { s.engine with attempts := s.engine.attempts + 1 }) :=
          h.setEngine head.running ⟨queue, overrun, more, fun _ => .inl locked, opened, coded⟩ head.free fun f =>
            absurd f thawed
        simp only [State.handled]
        split
        · exact engineOk_reads.after (record_leaves _ _) (by decide) missed
        · exact missed

theorem handlerOf_engineOk {c : RequestCode} {r : Request} {rest : List Request} (head : AtHead s c r rest)
    (through : gate s.engine.protection c = none) (h : EngineOk s) : EngineOk (handlerOf c s r).state := by
  have frame (apart : ∀ p ∈ [Part.phase, .ring, .swap, .engine], p ∉ c.handles) : EngineOk (handlerOf c s r).state :=
    engineOk_reads.after (handlerOf_leaves s c r) apart h
  obtain ⟨queue, overrun, attempts, tried, opened, coded⟩ := h.alone.form
  cases c with
  | clone =>
    simp only [handlerOf, handleClone]
    split
    · exact h
    · next none => exact h.goesOn .clone head rfl (writable_of_gate (by decide) through) (.inr (by simpa using none))
  | commitSwap =>
    simp only [handlerOf, handleCommitSwap]
    split
    · exact h
    · next none => exact h.goesOn .commit head rfl (writable_of_gate (by decide) through) (.inr (by simpa using none))
  | resetController => exact h.goesOn .softReset head rfl (writable_of_gate (by decide) through) (.inl rfl)
  | cancelSwap =>
    simp only [handlerOf, handleCancelSwap]
    split
    · obtain ⟨form, service, held⟩ := h.alone
      exact ⟨⟨form, service, held⟩, .inl rfl⟩
    · exact h
  | setMonitor =>
    simp only [handlerOf, handleSetMonitor]
    split
    · exact h.setEngine head.running ⟨queue, overrun, attempts, tried, opened, coded⟩ head.free fun f =>
        h.swap.resolve_right fun may => may.thawed f
    · exact h
  | setAttentionMode =>
    simp only [handlerOf, handleSetAttentionMode]
    split
    · exact h
    · split
      · exact h
      · refine engineOk_reads.after (setEvents_leaves _ _ _) (by decide) ?_
        exact h.setEngine head.running ⟨queue, overrun, attempts, tried, opened, coded⟩ head.free fun f =>
          h.swap.resolve_right fun may => may.thawed f
  | setCode =>
    have untried : s.engine.attempts = 0 := by
      by_contra tries
      have writable := writable_of_gate (by decide) through
      rcases tried tries with locked | frozen <;> simp_all
    exact h.setEngine head.running ⟨queue, overrun, attempts, (absurd untried ·), nofun, fun _ => rfl⟩ head.free nofun
  | clearCode =>
    have untried : s.engine.attempts = 0 := by
      by_contra tries
      rcases tried tries with locked | frozen
      · rw [locked] at through; cases through
      · rw [frozen] at through; cases through
    exact h.setEngine head.running ⟨queue, overrun, attempts, (absurd untried ·), fun _ => rfl, by simp⟩ head.free nofun
  | unlock => exact handleUnlock_engineOk head through h
  | lock =>
    have code := coded (coded_of_gate (.inl rfl) through)
    exact h.setEngine head.running ⟨queue, overrun, attempts, fun _ => .inl rfl, nofun, fun _ => code⟩ head.free nofun
  | freeze =>
    simp only [handlerOf, handleFreeze]
    split
    · exact h
    · split
      · exact h
      · next none =>
        exact h.setEngine head.running ⟨queue, overrun, attempts, fun _ => .inr rfl, nofun, by simp⟩ head.free
          fun _ => by simpa using none
  | _ => exact frame (by decide)

/-! ### Swaps (R122, R126) -/

theorem swapped_engineOk (d : Word) (h : EngineAlone s) : EngineOk (s.swapped d) := by
  obtain ⟨form, service, held⟩ := h
  have engine : (s.swapped d).engine = s.engine := s.swapped_engine d
  refine EngineAlone.ok ⟨?_, ?_, ?_⟩ (by rw [State.swapped_store]; rfl)
  · rw [engine]; exact form
  · rw [engine]; exact service
  · rw [s.swapped_phase d, engine]; exact held

/-- R122: a commit's completion leaves a swap pending in a SYNCED ring only. -/
theorem finishCommit_engineOk {r : Request} {rest : List Request} (service : InService s .commit r rest)
    (h : EngineOk s) : EngineOk (finishCommit s r) := by
  have began := (h.alone.service _ service.operation).1
  have thawed : s.engine.protection ≠ .frozen := by rcases began with p | p <;> rw [p] <;> nofun
  have answered (x : Option Word) (p : Reply) :
      EngineAlone ((s.setStore { s.store with pendingSwap := x }).answer r p) :=
    EngineAlone.answer (s := s.setStore { s.store with pendingSwap := x })
      ⟨h.alone.form, h.alone.service, h.alone.held⟩ r p
  obtain ⟨x, p, ⟨eq, unsynced⟩ | ⟨d, -, -, eq⟩⟩ := finishCommit_cases s r <;> rw [eq]
  · refine ⟨answered x p, ?_⟩
    cases synced : s.ring.synced with
    | false =>
      refine .inl ?_
      rw [unsynced synced]
      exact (answer_leaves _ r p) .swap (by decide)
    | true => exact .inr (State.answer_swapMayWait r p thawed service.running synced)
  · exact engineOk_reads.after ((deliver_leaves _ _).trans (deliver_leaves _ _)) (by decide)
      (swapped_engineOk d (answered x p))

/-! ### Every command -/

theorem engineOk_keptByInputs : KeptByInputs EngineOk where
  handle t c r rest head through h := by
    have handled := handlerOf_engineOk head through h
    unfold Handled.close
    split <;> [exact handled.answer r _; exact handled]
  answer _ r _ p _ _ h := h.answer r p
  straps t _ := engineOk_reads.after (setPins_leaves t _) (by decide)
  receiveM t frame running h := by
    unfold State.receiveM
    split
    · split
      · exact engineOk_reads.after (countMalformed_leaves t) (by decide) h
      · exact engineOk_reads.after (intakeSample_leaves t _) (by decide) h
      · exact h.takeRequest running _
    · exact h
  receiveC t frame _ := engineOk_reads.after (receiveC_leaves t frame) (by decide)
  edge t high := engineOk_reads.after (edge_leaves t high) (by decide)
  loseSignal t link mid _ := engineOk_reads.after (loseSignal_leaves t link mid) (by decide)
  regainSync t link _ := engineOk_reads.after (regainSync_leaves t link) (by decide)
  finishClone t r _ _ h :=
    (engineOk_reads.after (setShadow_leaves t t.store.activeBank) (by decide) h).answer r _
  finishCommit _ _ _ := finishCommit_engineOk
  completeAudit t _ := engineOk_reads.after (completeAudit_leaves t) (by decide)
  endPulse t _ := engineOk_reads.after (endPulse_leaves t) (by decide)

/-- R168, R172: in the hold the part is OPEN with an empty queue and no swap pending. -/
theorem hold_engineOk (s : State) (phase : RunPhase) : EngineOk (s.hold phase) := by
  refine EngineAlone.ok ⟨⟨Nat.zero_le _, Nat.zero_le _, Nat.zero_le _, (absurd rfl ·), fun _ => rfl, ?_⟩, nofun, ?_⟩ rfl
  · rintro (p | p) <;> cases p
  · exact fun _ => ⟨rfl, rfl, rfl⟩

theorem driveReset_engineOk (h : EngineOk s) : EngineOk s.driveReset := by
  unfold State.driveReset
  split <;> first
    | exact hold_engineOk _ _
    | exact engineOk_reads.after (setPins_leaves s _) (by decide) h

theorem engineOk_keptByArrivals : KeptByArrivals (fun _ => True) fun _ => EngineOk where
  aside _ t x _ h :=
    engineOk_keptByInputs.aside x (fun _ => hold_engineOk _ _) (fun _ => driveReset_engineOk h) h
  abandoned _ _ _ h := h
  check _ _ h := h
  noteSet _ _ h := h.same rfl rfl rfl id
  intakeRelease t set _ := engineOk_reads.after (intakeRelease_leaves t set) (by decide)
  noteReleased _ _ h := h.same rfl rfl rfl id
  track t set _ := engineOk_reads.after (track_leaves t _ _) (by decide)
  feedWindows t _ i v := engineOk_reads.after (feedWindows_leaves t i v) (by decide)
  compose t _ count out := engineOk_reads.after (compose_leaves t count out) (by decide)
  sendC t _ frame _ := engineOk_reads.after (sendC_leaves t frame) (by decide)
  leaveC t _ count := engineOk_reads.after (leaveC_leaves t count) (by decide)
  done _ h := h
  closeCycle t _ := engineOk_reads.after (closeCycle_leaves t) (by decide)
  takeBoundary _ fig _ :=
    takeBoundary_keeps (fun t g => engineOk_reads.after (deliver_leaves t g) (by decide))
      (fun t n => engineOk_reads.after (setEvents_leaves t _ n) (by decide))
      (fun t => engineOk_reads.after (rollFlags_leaves t) (by decide)) (fun _ d _ h => swapped_engineOk d h.alone)
      (fun t fig e o => engineOk_reads.after (boundaryBlocks_leaves t fig e o) (by decide)) fig
  ring _ _ synced h := h.same rfl rfl rfl synced
  countDuplicate t := engineOk_reads.after (setCounters_leaves t _) (by decide)
  countLate t := engineOk_reads.after (setCounters_leaves t _) (by decide)
  countResync t := engineOk_reads.after (setCounters_leaves t _) (by decide)
  countHealth t _ _ := engineOk_reads.after (setHealth_leaves t _) (by decide)
  record t body := engineOk_reads.after (record_leaves t body) (by decide)

/-- R168: a held part starts to run OPEN, with an empty queue and no swap pending. -/
theorem EngineOk.start (h : EngineOk s) (held : s.phase ≠ .running) {address : BitVec 6}
    (engine : t.engine = { s.engine with address := address }) (swap : t.store.pendingSwap = none) : EngineOk t := by
  obtain ⟨opened, empty, none⟩ := h.alone.held held
  obtain ⟨queue, overrun, attempts, tried, uncoded, coded⟩ := h.alone.form
  refine EngineAlone.ok ⟨?_, ?_, fun _ => ?_⟩ swap <;> rw [engine]
  · exact ⟨queue, overrun, attempts, tried, uncoded, coded⟩
  · exact fun op mem => absurd (none ▸ mem) nofun
  · exact ⟨opened, empty, none⟩

theorem EngineOk.noSwap_of_held (h : EngineOk s) (held : s.phase ≠ .running) : s.store.pendingSwap = none :=
  h.swap.resolve_right fun may => held may.running

theorem EngineOk.holdEnds (cause : HoldEnd) (straps : BitVec 6) (h : EngineOk s) :
    EngineOk (s.holdEnds cause straps) := by
  have lineHigh : EngineOk (s.setResetN true) := engineOk_reads.after (setPins_leaves s _) (by decide) h
  cases cause with
  | supplyReached =>
    simp only [State.holdEnds, State.supplyReached]
    split
    · next held =>
      have held : s.phase ≠ .running := held ▸ nofun
      exact h.start held rfl (h.noSwap_of_held held)
    · exact h
  | resetLineHigh =>
    simp only [State.holdEnds, State.resetReleased]
    split
    · next held =>
      have held : s.phase ≠ .running := held ▸ nofun
      exact h.start held rfl (h.noSwap_of_held held)
    · next held =>
      have held : s.phase ≠ .running := held ▸ nofun
      exact h.start held (address := s.engine.address) rfl (h.noSwap_of_held held)
    · exact lineHigh

theorem EngineOk.endSelfTest (h : EngineOk s) : EngineOk s.endSelfTest := by
  have noSwap : TableStore.initialised.pendingSwap = none := by rw [TableStore.initialised]
  revert noSwap
  unfold State.endSelfTest State.powerOnTest State.hardTest
  generalize TableStore.initialised = initial
  intro noSwap
  split
  · next held =>
    have held : s.phase ≠ .running := held ▸ nofun
    simp only
    split <;> exact h.start held (address := s.engine.address) rfl noSwap
  · next held =>
    have held : s.phase ≠ .running := held ▸ nofun
    split
    · exact h.start held (address := s.engine.address) rfl (h.noSwap_of_held held)
    · exact h.start held (address := s.engine.address) rfl noSwap
  · exact h

theorem engineOk_keptByCommands : KeptByCommands EngineOk where
  toKeptByInputs := engineOk_keptByInputs
  queue _ _ h := h.same rfl rfl rfl id
  supplyStart _ _ := hold_engineOk _ _
  driveReset _ := driveReset_engineOk
  holdEnds _ cause straps h := h.holdEnds cause straps
  endSelfTest _ h := h.endSelfTest
  finishSoftReset t r _ service h := by
    obtain ⟨queue, -, attempts, tried, opened, coded⟩ := h.alone.form
    have blocks : EngineOk t.softBlocks :=
      EngineAlone.ok ⟨⟨queue, Nat.zero_le _, attempts, tried, opened, coded⟩, h.alone.service, h.alone.held⟩ rfl
    exact (engineOk_reads.after (deliver_leaves _ _) (by decide) blocks).answer r _
  takeNext _ _ running := engineOk_keptByArrivals.takeNext (fun _ _ => trivial) running

end

/-- Settles O57: each request's handling is let through by the gate only where its protection state fits; a swap waits
only in a SYNCED ring of a running part. -/
theorem engineKeepsItsForm : Obligations.EngineKeepsItsForm := fun s t h run =>
  t.engineInv_iff.2 (engineOk_keptByCommands.step (s.engineInv_iff.1 h) run)

/-! ### FROZEN (R165) -/

/-- What FROZEN keeps of a state `s`. -/
structure Isolated (s t : State) : Prop where
  frozen : t.engine.protection = .frozen
  code : t.engine.code = s.engine.code
  bank0 : t.store.bank0 = s.store.bank0
  bank1 : t.store.bank1 = s.store.bank1
  active : t.store.active = s.store.active
  recorded : t.store.recorded = s.store.recorded

/-- A FROZEN part runs, with no operation in service and no swap pending. -/
theorem EngineOk.of_frozen {s : State} (h : EngineOk s) (frozen : s.engine.protection = .frozen) :
    s.phase = .running ∧ s.engine.operation = none ∧ s.store.pendingSwap = none := by
  refine ⟨?_, ?_, h.swap.resolve_right fun may => may.thawed frozen⟩
  · by_contra held
    exact nomatch frozen.symm.trans (h.alone.held held).1
  · by_contra busy
    obtain ⟨op, service⟩ := Option.ne_none_iff_exists'.1 busy
    rcases (h.alone.service op service).1 with p | p <;> exact nomatch frozen.symm.trans p

section
variable {s t u : State}

theorem isolated_reads (s : State) : Reads [.engine, .store] (Isolated s) := by
  intro t u same h
  have engine : u.engine = t.engine := same .engine (by decide)
  have store : u.store = t.store := same .store (by decide)
  exact ⟨engine ▸ h.frozen, engine ▸ h.code, store ▸ h.bank0, store ▸ h.bank1, store ▸ h.active, store ▸ h.recorded⟩

theorem Isolated.answer (h : Isolated s t) (r : Request) (p : Reply) : Isolated s (t.answer r p) := by
  unfold State.answer
  split <;> exact ⟨h.frozen, h.code, h.bank0, h.bank1, h.active, h.recorded⟩

theorem Isolated.handlerOf {c : RequestCode} (h : Isolated s t) (through : gate t.engine.protection c = none)
    (r : Request) : Isolated s (handlerOf c t r).state := by
  rw [h.frozen] at through
  have frame (apart : ∀ p ∈ [Part.engine, .store], p ∉ c.handles) : Isolated s (Machine.handlerOf c t r).state :=
    (isolated_reads s).after (handlerOf_leaves t c r) apart h
  cases c with
  | setMonitor =>
    simp only [Machine.handlerOf, handleSetMonitor]
    split <;> exact ⟨h.frozen, h.code, h.bank0, h.bank1, h.active, h.recorded⟩
  | freeze =>
    simp only [Machine.handlerOf, handleFreeze, if_pos h.frozen]
    exact h
  | echo | readStatus | readTable | readEvents | readHealth | wake | clearTrip | injectClear => exact frame (by decide)
  | _ => cases through

theorem Isolated.completeAudit (h : Isolated s t) : Isolated s t.completeAudit := by
  unfold State.completeAudit
  split <;> [exact ⟨h.frozen, h.code, h.bank0, h.bank1, h.active, h.recorded⟩; exact h]

/-- A FROZEN part in its form, isolated from `s` on. -/
abbrev FrozenFrom (s t : State) : Prop := EngineOk t ∧ Isolated s t

theorem FrozenFrom.running (h : FrozenFrom s t) : t.phase = .running := (h.1.of_frozen h.2.frozen).1

theorem FrozenFrom.not_inService (h : FrozenFrom s t) {op : Operation} {r : Request} {rest : List Request} :
    ¬ InService t op r rest := fun service => by
  have free := (h.1.of_frozen h.2.frozen).2.1
  rw [service.operation] at free
  cases free

theorem FrozenFrom.noSwap (h : FrozenFrom s t) : t.store.pendingSwap = none := (h.1.of_frozen h.2.frozen).2.2

theorem frozenFrom_reads (s : State) : Reads [.phase, .ring, .store, .swap, .engine] (FrozenFrom s) := by
  intro t u same h
  have sub {D : List Part} (sub : D ⊆ [.phase, .ring, .store, .swap, .engine]) : ∀ p ∈ D, p.Same t u :=
    fun p mem => same p (sub mem)
  exact ⟨engineOk_reads t u (sub (by decide)) h.1, isolated_reads s t u (sub (by decide)) h.2⟩

theorem frozenFrom_keptByInputs (s : State) : KeptByInputs (FrozenFrom s) where
  handle t c r rest head through h := by
    have isolated := h.2.handlerOf through r
    refine ⟨engineOk_keptByInputs.handle t c r rest head through h.1, ?_⟩
    unfold Handled.close
    split <;> [exact isolated.answer r _; exact isolated]
  answer _ r _ p _ _ h := ⟨h.1.answer r p, h.2.answer r p⟩
  straps t _ := (frozenFrom_reads s).after (setPins_leaves t _) (by decide)
  receiveM t frame running h := by
    refine ⟨engineOk_keptByInputs.receiveM t frame running h.1, ?_⟩
    unfold State.receiveM
    split
    · split
      · exact (isolated_reads s).after (countMalformed_leaves t) (by decide) h.2
      · exact (isolated_reads s).after (intakeSample_leaves t _) (by decide) h.2
      · unfold State.takeRequest Engine.offerRequest
        obtain ⟨frozen, code, bank0, bank1, active, recorded⟩ := h.2
        split <;> [split; skip] <;> exact ⟨frozen, code, bank0, bank1, active, recorded⟩
    · exact h.2
  receiveC t frame _ := (frozenFrom_reads s).after (receiveC_leaves t frame) (by decide)
  edge t high := (frozenFrom_reads s).after (edge_leaves t high) (by decide)
  loseSignal t link mid _ := (frozenFrom_reads s).after (loseSignal_leaves t link mid) (by decide)
  regainSync t link _ := (frozenFrom_reads s).after (regainSync_leaves t link) (by decide)
  finishClone _ _ _ service h := absurd service h.not_inService
  finishCommit _ _ _ service h := absurd service h.not_inService
  completeAudit t running h := ⟨engineOk_keptByInputs.completeAudit t running h.1, h.2.completeAudit⟩
  endPulse t _ := (frozenFrom_reads s).after (endPulse_leaves t) (by decide)

/-- R128: with no swap pending a boundary changes the store's audit alone. -/
theorem Isolated.takeBoundary (fig : ArcFigures) (h : Isolated s t) (none : t.store.pendingSwap = none) :
    Isolated s (t.takeBoundary fig) := by
  obtain ⟨frozen, code, bank0, bank1, active, recorded⟩ := h
  rw [State.takeBoundary_of_none t fig none]
  have engine := (boundaryBlocks_leaves t.rollFlags fig [] [t.rollOffers]) .engine (by decide)
  have store := State.boundaryBlocks_store t.rollFlags fig [] [t.rollOffers]
  rw [TableStore.auditStep_eq] at store
  exact
    { frozen := (congrArg Engine.protection engine).trans frozen, code := (congrArg Engine.code engine).trans code
      bank0 := (congrArg TableStore.bank0 store).trans bank0, bank1 := (congrArg TableStore.bank1 store).trans bank1
      active := (congrArg TableStore.active store).trans active
      recorded := (congrArg TableStore.recorded store).trans recorded }

theorem frozenFrom_keptByArrivals (s : State) :
    KeptByArrivals (fun x => x ≠ .powerOn ∧ x ≠ .hardReset) fun _ => FrozenFrom s where
  aside _ t x may h :=
    (frozenFrom_keptByInputs s).aside x (fun eq => absurd eq may.1) (fun eq => absurd eq may.2) h
  abandoned _ _ _ h := h
  check _ _ h := h
  noteSet _ _ h := ⟨h.1.same rfl rfl rfl id, (isolated_reads s).after (noteSet_leaves _ _) (by decide) h.2⟩
  intakeRelease t set _ := (frozenFrom_reads s).after (intakeRelease_leaves t set) (by decide)
  noteReleased _ _ h := ⟨h.1.same rfl rfl rfl id, (isolated_reads s).after (noteReleased_leaves _ _) (by decide) h.2⟩
  track t set _ := (frozenFrom_reads s).after (track_leaves t _ _) (by decide)
  feedWindows t _ i v := (frozenFrom_reads s).after (feedWindows_leaves t i v) (by decide)
  compose t _ count out := (frozenFrom_reads s).after (compose_leaves t count out) (by decide)
  sendC t _ frame _ := (frozenFrom_reads s).after (sendC_leaves t frame) (by decide)
  leaveC t _ count := (frozenFrom_reads s).after (leaveC_leaves t count) (by decide)
  done _ h := h
  closeCycle t _ := (frozenFrom_reads s).after (closeCycle_leaves t) (by decide)
  takeBoundary t fig running h :=
    ⟨engineOk_keptByArrivals.takeBoundary t fig running h.1, h.2.takeBoundary fig h.noSwap⟩
  ring _ _ synced h :=
    ⟨h.1.same rfl rfl rfl synced, ⟨h.2.frozen, h.2.code, h.2.bank0, h.2.bank1, h.2.active, h.2.recorded⟩⟩
  countDuplicate t := (frozenFrom_reads s).after (setCounters_leaves t _) (by decide)
  countLate t := (frozenFrom_reads s).after (setCounters_leaves t _) (by decide)
  countResync t := (frozenFrom_reads s).after (setCounters_leaves t _) (by decide)
  countHealth t _ _ := (frozenFrom_reads s).after (setHealth_leaves t _) (by decide)
  record t body := (frozenFrom_reads s).after (record_leaves t body) (by decide)

end

/-- Settles O58: a FROZEN part has nothing in service and no swap pending, and the gate lets nothing through that writes
the banks or the code. -/
theorem frozenPartIsolatesBanksAndCode : Obligations.FrozenPartIsolatesBanksAndCode := by
  intro c s t inv frozen notPowerOn notHardReset asides run
  have start : FrozenFrom s s := ⟨s.engineInv_iff.1 inv, ⟨frozen, rfl, rfl, rfl, rfl, rfl⟩⟩
  have running := start.running
  obtain ⟨-, ⟨frozen, code, bank0, bank1, active, recorded⟩⟩ :=
    (frozenFrom_keptByInputs s).exec c run start (fun eq => absurd eq notPowerOn) (fun eq => absurd eq notHardReset)
      (fun cause straps _ =>
        (frozenFrom_reads s).after (holdEnds_leaves_of_running s cause straps running) (by decide) start)
      (fun _ => by rwa [endSelfTest_of_running s running])
      (fun _ _ _ service => absurd service start.not_inService)
      (fun sets eq running => (frozenFrom_keptByArrivals s).takeNext (fun y mem => asides y (eq ▸ mem)) running start)
  exact ⟨frozen, code, bank0, bank1, active, recorded⟩

end Sys2Proof.Machine

/-! The trip line latches (R147): only CLEAR_TRIP and the resets take it back. -/

namespace Sys2Proof.Machine

/-- The trip line asserted. -/
def State.Tripped (s : State) : Prop := s.supervision.trip = true

/-- The trip line asserted, with no CLEAR_TRIP in the queue where requests are served. -/
structure TripHolds (serves : Prop) (s : State) : Prop where
  trip : s.Tripped
  queue : serves → ∀ r ∈ s.engine.queue, RequestCode.ofWord r.code ≠ some .clearTrip

section
variable {s t : State}

theorem tripped_reads : Reads [.trip] State.Tripped := fun _ _ same h => (same .trip (by decide)).trans h

theorem Leaves.tripped {ps : List Part} (l : Leaves ps s t) (apart : .trip ∉ ps) : s.Tripped → t.Tripped :=
  tripped_reads.after l (by simpa using apart)

theorem tripped_keptByLines : KeptByLines State.Tripped where
  answer t r _ p _ _ := (answer_leaves t r p).tripped (by decide)
  straps t _ := (setPins_leaves t _).tripped (by decide)
  receiveM t frame _ := (receiveM_leaves t frame).tripped (by decide)
  receiveC t frame _ := (receiveC_leaves t frame).tripped (by decide)
  edge t high := (edge_leaves t high).tripped (by decide)
  loseSignal t link mid _ := (loseSignal_leaves t link mid).tripped (by decide)
  regainSync t link _ := (regainSync_leaves t link).tripped (by decide)
  finishClone t r _ _ := (finishClone_leaves t r).tripped (by decide)
  finishCommit t r _ _ := (finishCommit_leaves t r).tripped (by decide)
  completeAudit t _ := (completeAudit_leaves t).tripped (by decide)
  endPulse t _ := (endPulse_leaves t).tripped (by decide)

/-- R148: no request but CLEAR_TRIP takes the line back. -/
theorem handlerOf_tripped {c : RequestCode} (other : c ≠ .clearTrip) (r : Request) (h : s.Tripped) :
    ((handlerOf c s r).close r).Tripped := by
  refine (close_leaves s r (handlerOf_leaves s c r)).tripped ?_ h
  revert other
  cases c <;> decide

theorem serve_tripped {c : RequestCode} (other : c ≠ .clearTrip) (h : s.Tripped) :
    (s.serve c (handlerOf c)).Tripped :=
  tripped_keptByLines.serve c h fun r _ _ _ => handlerOf_tripped other r h

/-- R145: a boundary asserts the line or leaves it. -/
theorem takeBoundary_tripped (fig : ArcFigures) (h : s.Tripped) : (s.takeBoundary fig).Tripped := by
  refine takeBoundary_keeps (fun t g => (deliver_leaves t g).tripped (by decide))
    (fun t n => (setEvents_leaves t _ n).tripped (by decide)) (fun t => (rollFlags_leaves t).tripped (by decide))
    (fun t d _ => (swapped_leaves t d).tripped (by decide)) (fun t fig e o h => ?_) fig h
  have before : t.supervision.trip = true := h
  rw [State.boundaryBlocks_eq]
  simp only [State.Tripped, State.deliver_supervision, State.setStore_supervision, State.setSupervision_supervision,
    State.trips, termsStep, State.arcsAndQuiet_fst, quietStep_trip]
  rw [show (t.healthBoundary.passedBy fig t.healthBoundary.supervision feederNumbers).trip = true from before,
    Bool.true_or]

/-- R155: inside an arrival a service handles a CLEAR_TRIP only where one is queued. -/
theorem serveHead_tripped (h : TripHolds True s) : s.serveHead.Tripped := by
  unfold State.serveHead
  split
  · exact h.trip
  · next r rest queue =>
    split
    · next c code =>
      refine serve_tripped (fun same => ?_) h.trip
      exact h.queue trivial r (queue ▸ List.mem_cons_self) (same ▸ code)
    · exact (tripped_keptByLines.serveUnknown h.trip)

/-! ### The queue inside an arrival (R155) -/

theorem Leaves.queue_subset {ps : List Part} (l : Leaves ps s t) (apart : .engine ∉ ps) :
    t.engine.queue ⊆ s.engine.queue := by
  rw [show t.engine = s.engine from l .engine apart]
  exact List.Subset.refl _

theorem answer_queue_subset (r : Request) (p : Reply) : (s.answer r p).engine.queue ⊆ s.engine.queue := by
  unfold State.answer
  split <;> exact List.tail_subset _

/-- R155: a handling leaves the queue alone. -/
theorem handlerOf_queue (c : RequestCode) (r : Request) : (handlerOf c s r).state.engine.queue = s.engine.queue := by
  have frame (apart : .engine ∉ c.handles) : (handlerOf c s r).state.engine.queue = s.engine.queue :=
    congrArg Engine.queue ((handlerOf_leaves s c r) .engine apart)
  cases c with
  | clone => simp only [handlerOf, handleClone]; split <;> rfl
  | commitSwap => simp only [handlerOf, handleCommitSwap]; split <;> rfl
  | setMonitor => simp only [handlerOf, handleSetMonitor]; split <;> rfl
  | setAttentionMode =>
    simp only [handlerOf, handleSetAttentionMode]
    split <;> [rfl; split <;> rfl]
  | unlock =>
    simp only [handlerOf, handleUnlock]
    split <;> [rfl; split <;> [rfl; split <;> [rfl; (simp only [State.handled]; split <;> rfl)]]]
  | freeze => simp only [handlerOf, handleFreeze]; split <;> [rfl; split <;> rfl]
  | resetController | setCode | clearCode | lock => rfl
  | _ => exact frame (by decide)

theorem serve_queue_subset (c : RequestCode) : (s.serve c (handlerOf c)).engine.queue ⊆ s.engine.queue := by
  obtain same | ⟨r, rest, head, served⟩ := s.serve_cases c (handlerOf c)
  · rw [same]; exact List.Subset.refl _
  · rw [served]
    obtain ⟨-, -, dropped⟩ | ⟨o, -, refused⟩ | ⟨-, handled⟩ := s.serveRequest_cases c (handlerOf c) r
    · rw [dropped]; exact List.tail_subset _
    · rw [refused]; exact answer_queue_subset _ _
    · rw [handled]
      rw [← handlerOf_queue (s := s) c r]
      unfold Handled.close
      split <;> [exact answer_queue_subset _ _; exact List.Subset.refl _]

theorem serveHead_queue_subset : s.serveHead.engine.queue ⊆ s.engine.queue := by
  have same : s.engine.queue ⊆ s.engine.queue := List.Subset.refl _
  unfold State.serveHead
  split
  · exact same
  · split
    · exact serve_queue_subset _
    · unfold State.serveUnknown
      refine s.whenRunning_keeps (fun t => t.engine.queue ⊆ s.engine.queue) _ same fun _ => ?_
      split <;> [(split <;> [exact answer_queue_subset _ _; exact same]); exact same]

theorem complete_queue_subset (op : Operation) {finish : State → Request → State}
    (shorter : ∀ r, (finish s r).engine.queue ⊆ s.engine.queue) :
    (s.complete op finish).engine.queue ⊆ s.engine.queue := by
  obtain same | ⟨r, rest, -, finished⟩ := s.complete_cases op finish
  · rw [same]; exact List.Subset.refl _
  · rw [finished]; exact shorter r

theorem finishCommit_queue_subset (r : Request) : (finishCommit s r).engine.queue ⊆ s.engine.queue := by
  obtain ⟨x, p, ⟨eq, -⟩ | ⟨d, -, -, eq⟩⟩ := finishCommit_cases s r <;> rw [eq]
  · exact answer_queue_subset (s := s.setStore _) r p
  · exact List.Subset.trans ((swapAtOnce_leaves _ d).queue_subset (by decide))
      (answer_queue_subset (s := s.setStore _) r p)

/-- R154: the queue grows by frames on link M alone. -/
theorem takeAside_queue_subset {x : Aside} (noFrame : ∀ ws, x ≠ .linkMFrame ws) :
    (s.takeAside x).engine.queue ⊆ s.engine.queue := by
  cases x with
  | serve => exact serveHead_queue_subset
  | monStraps level => exact (setPins_leaves s _).queue_subset (by decide)
  | linkMFrame ws => exact absurd rfl (noFrame ws)
  | linkCFrame frame => exact (receiveC_leaves s frame).whenRunning.queue_subset (by decide)
  | cblkEdge high => exact (edge_leaves s high).queue_subset (by decide)
  | lossOfSignal link mid =>
    exact (loseSignal_leaves s link mid).whenRunning (f := (·.loseSignal link mid)) |>.queue_subset (by decide)
  | syncRegained link =>
    exact (regainSync_leaves s link).whenRunning (f := (·.regainSync link)) |>.queue_subset (by decide)
  | cloneCompletion =>
    exact complete_queue_subset .clone fun r => answer_queue_subset (s := s.setStore _) r _
  | commitCompletion => exact complete_queue_subset .commit fun r => finishCommit_queue_subset r
  | auditCompletion => exact (completeAudit_leaves s).whenRunning.queue_subset (by decide)
  | attentionPulseEnd => exact (endPulse_leaves s).whenRunning.queue_subset (by decide)
  | powerOn => exact List.nil_subset _
  | hardReset =>
    simp only [State.takeAside, State.driveReset]
    split <;> first | exact List.Subset.refl _ | exact List.nil_subset _

/-! ### Every command -/

/-- What may fall inside an arrival that keeps the line: no reset, and where requests are served no frame on link M. -/
structure KeepsTrip (serves : Prop) (x : Aside) : Prop where
  powerOn : x ≠ .powerOn
  hardReset : x ≠ .hardReset
  serve : x = .serve → serves
  frame : serves → ∀ ws, x ≠ .linkMFrame ws

theorem tripHolds_reads (serves : Prop) : Reads [.trip, .engine] (TripHolds serves) := by
  intro s t same h
  have engine : t.engine = s.engine := same .engine (by decide)
  exact ⟨(same .trip (by decide)).trans h.trip, engine ▸ h.queue⟩

theorem tripHolds_keptByArrivals (serves : Prop) : KeptByArrivals (KeepsTrip serves) fun _ => TripHolds serves where
  aside _ t x may h := by
    refine ⟨tripped_keptByLines.aside x (fun eq => ?_) (fun eq => absurd eq may.powerOn)
      (fun eq => absurd eq may.hardReset) h.trip, fun serving r mem => ?_⟩
    · exact serveHead_tripped ⟨h.trip, fun _ => h.queue (may.serve eq)⟩
    · exact h.queue serving r (takeAside_queue_subset (may.frame serving) mem)
  abandoned _ _ _ h := h
  check _ _ h := h
  noteSet t _ := (tripHolds_reads serves).after (noteSet_leaves t _) (by decide)
  intakeRelease t set _ h := by
    have engine : (t.intakeRelease set).engine = t.engine := (intakeRelease_leaves t set) .engine (by decide)
    obtain ⟨g, eq⟩ := t.intakeRelease_eq_deliver set
    refine ⟨?_, engine ▸ h.queue⟩
    rw [eq]
    exact h.trip
  noteReleased t set := (tripHolds_reads serves).after (noteReleased_leaves t set) (by decide)
  track t set _ := (tripHolds_reads serves).after (track_leaves t _ _) (by decide)
  feedWindows t _ i v := (tripHolds_reads serves).after (feedWindows_leaves t i v) (by decide)
  compose t _ count out := (tripHolds_reads serves).after (compose_leaves t count out) (by decide)
  sendC t _ frame _ := (tripHolds_reads serves).after (sendC_leaves t frame) (by decide)
  leaveC t _ count := (tripHolds_reads serves).after (leaveC_leaves t count) (by decide)
  done _ h := h
  closeCycle t _ := (tripHolds_reads serves).after (closeCycle_leaves t) (by decide)
  takeBoundary t fig _ h := by
    have frame : ∀ u : State, u.engine = t.engine → ∀ v, Leaves [.health, .supervision, .trip, .store, .auditCounter,
      .events, .bank, .swap, .sources, .ring, .waiting, .tracker, .transform, .composer] u v → v.engine = t.engine :=
      fun u same v l => (l .engine (by decide)).trans same
    have engine : (t.takeBoundary fig).engine = t.engine :=
      takeBoundary_keeps (P := fun u => u.engine = t.engine)
        (fun u g same => frame u same _ ((deliver_leaves u g).mono (by decide)))
        (fun u n same => frame u same _ ((setEvents_leaves u _ n).mono (by decide)))
        (fun u same => frame u same _ ((rollFlags_leaves u).mono (by decide)))
        (fun u d _ same => frame u same _ ((swapped_leaves u d).mono (by decide)))
        (fun u fig e o same => frame u same _ ((boundaryBlocks_leaves u fig e o).mono (by decide))) fig rfl
    exact ⟨takeBoundary_tripped fig h.trip, engine ▸ h.queue⟩
  ring _ _ _ h := ⟨h.trip, h.queue⟩
  countDuplicate t := (tripHolds_reads serves).after (setCounters_leaves t _) (by decide)
  countLate t := (tripHolds_reads serves).after (setCounters_leaves t _) (by decide)
  countResync t := (tripHolds_reads serves).after (setCounters_leaves t _) (by decide)
  countHealth t _ _ := (tripHolds_reads serves).after (setHealth_leaves t _) (by decide)
  record t body := (tripHolds_reads serves).after (record_leaves t body) (by decide)

/-- R168: the line is low in a part that does not run; the end of a reset does not lower it. -/
theorem holdEnds_tripped (cause : HoldEnd) (straps : BitVec 6) (h : s.Tripped) : (s.holdEnds cause straps).Tripped := by
  cases cause with
  | supplyReached => simp only [State.holdEnds, State.supplyReached]; split <;> exact h
  | resetLineHigh => simp only [State.holdEnds, State.resetReleased]; split <;> exact h

theorem endSelfTest_tripped (h : s.Tripped) : s.endSelfTest.Tripped := by
  unfold State.endSelfTest State.powerOnTest State.hardTest
  generalize TableStore.initialised = initial
  split
  · simp only; split <;> exact h
  · split <;> exact h
  · exact h

end

/-- Settles O42: CLEAR_TRIP's handling is the only one to touch the line, and a boundary asserts it or leaves it; a soft
reset keeps it. -/
theorem tripLineLatches : Obligations.TripLineLatches := by
  intro c s t notClear notPowerOn notHardReset noReset served trip run
  refine tripped_keptByLines.exec c run trip (fun code same => serve_tripped (fun clear => ?_) trip)
    (fun eq => absurd eq notPowerOn) (fun eq => absurd eq notHardReset)
    (fun cause straps _ => holdEnds_tripped cause straps trip) (fun _ => endSelfTest_tripped trip)
    (fun r _ _ _ => ?_) fun sets eq running => ?_
  · exact notClear (same.trans (congrArg RequestCode.command clear))
  · have blocks : (s.softBlocks.recordReset .soft .pass).Tripped := trip
    exact (answer_leaves _ r _).tripped (by decide) blocks
  · have asides : c.asides = sets.flatMap SetAsides.all := by rw [eq]; rfl
    refine ((tripHolds_keptByArrivals (.serve ∈ c.asides)).takeNext (fun y mem => ?_) running
      ⟨trip, fun serving => (served serving).1⟩).trip
    have mem := asides ▸ mem
    exact ⟨(noReset y mem).1, (noReset y mem).2, fun eq => eq ▸ mem, fun serving ws eq =>
      (served serving).2 ws (eq ▸ mem)⟩

end Sys2Proof.Machine

/-! The alignment ring keeps its form (R18, R25, R39), and between two arrivals the set at the base is not complete
(R29). Inside an arrival the form is kept without its bound on the slots; the cascade restores the bound: with `fuel`
sets to go no slot from distance `fuel` on is occupied, and beyond distance 8 at most the arrival's own. -/

namespace Sys2Proof.Machine

/-! ### Slots (R19, R25) -/

theorem Slot.inIu_empty : Slot.InIu Slot.empty := by
  intro k y mem
  simp [Slot.empty] at mem

@[simp] theorem emptySlots_getElem (i : Fin 16) : emptySlots[i] = Slot.empty := by simp [emptySlots]

/-- Every slot's values are within iu. -/
def SlotsInIu (v : Vector Slot 16) : Prop := ∀ i : Fin 16, Slot.InIu v[i]

theorem slotsInIu_empty : SlotsInIu emptySlots := fun i => by rw [emptySlots_getElem]; exact Slot.inIu_empty

/-- No slot from distance 8 on is occupied (R25). -/
def NearSlots (v : Vector Slot 16) : Prop := ∀ i : Fin 16, 8 ≤ i.val → v[i] = Slot.empty

theorem nearSlots_empty : NearSlots emptySlots := fun i _ => emptySlots_getElem i

/-- No slot from distance `fuel` on is occupied, and from distance 8 on at most the one at the distance `d`. -/
structure SlotsWithin (fuel : Nat) (d : Option Nat) (v : Vector Slot 16) : Prop where
  fuel : ∀ i : Fin 16, fuel ≤ i.val → v[i] = Slot.empty
  far : ∀ i : Fin 16, 8 ≤ i.val → d ≠ some i.val → v[i] = Slot.empty

section
variable {v : Vector Slot 16}

theorem shiftSlots_getElem (v : Vector Slot 16) (i : Fin 16) :
    (shiftSlots v)[i] = if h : i.val + 1 < 16 then v[i.val + 1] else Slot.empty := by
  simp [shiftSlots]

theorem SlotsInIu.shift (h : SlotsInIu v) : SlotsInIu (shiftSlots v) := by
  intro i
  rw [shiftSlots_getElem]
  split
  · next inside => exact h ⟨i.val + 1, inside⟩
  · exact Slot.inIu_empty

/-- R19: the base advanced, every slot is one nearer. -/
theorem SlotsWithin.shift {fuel : Nat} {d : Option Nat} (h : SlotsWithin (fuel + 1) d v) :
    SlotsWithin fuel (nearer d) (shiftSlots v) := by
  constructor <;> intro i beyond <;> try intro other
  all_goals rw [shiftSlots_getElem]; split
  · next inside => exact h.fuel ⟨i.val + 1, inside⟩ (by simp only; omega)
  · rfl
  · next inside =>
    refine h.far ⟨i.val + 1, inside⟩ (by simp only; omega) fun same => other ?_
    rw [same]
    rfl
  · rfl

/-- R21: a place taken in the window. -/
theorem SlotsWithin.store (h : NearSlots v) (d : Fin 16) (x : Slot) :
    SlotsWithin 16 (some d.val) (v.set d.val x) where
  fuel i beyond := absurd i.isLt (by omega)
  far i beyond other := by
    have apart : d.val ≠ i.val := fun same => other (congrArg some same)
    rw [Fin.getElem_fin, Vector.getElem_set_ne _ _ apart]
    exact h i beyond

theorem SlotsInIu.store (h : SlotsInIu v) (d : Fin 16) (k : Fin 8) {x : Sample} (range : x.values.InIu) :
    SlotsInIu (v.set d.val ((v[d]).set k.val (some x))) := by
  intro i
  by_cases same : d.val = i.val
  · intro j y mem
    simp only [Fin.getElem_fin, ← same, Vector.getElem_set_self] at mem
    by_cases here : k.val = j.val
    · simp only [← here, Vector.getElem_set_self, Option.mem_some_iff] at mem
      exact mem ▸ range
    · rw [Vector.getElem_set_ne _ _ here] at mem
      exact h d j y mem
  · rw [Fin.getElem_fin, Vector.getElem_set_ne _ _ same]
    exact h i

end

/-! ### The form inside an arrival -/

/-- The ring's form, with what `Q` says of the slots of a SYNCED ring. -/
structure RingAt (Q : Vector Slot 16 → Prop) (s : State) : Prop where
  empty : s.ring.synced = false → s.ring.slots = emptySlots
  base : s.ring.synced = true → s.ring.base < s.bank.modulus
  values : SlotsInIu s.ring.slots
  slots : s.ring.synced = true → Q s.ring.slots
  last : ∀ k : Fin 8, (s.ring.lastValues[k]).InIu
  released : ∀ n ∈ s.ring.lastReleased, n < 3840
  waiting : ∀ a ∈ s.ring.waiting, a.count < s.bank.modulus ∧ a.sample.values.InIu
  held : s.phase ≠ .running → s.ring.synced = false ∧ s.ring.waiting = []

theorem State.ringInv_iff (s : State) : s.RingInv ↔ RingAt NearSlots s := by
  constructor
  · rintro ⟨empty, base, values, near, last, released, waiting, held⟩
    exact ⟨empty, base, values, fun _ => near, last, released, waiting, held⟩
  · rintro ⟨empty, base, values, near, last, released, waiting, held⟩
    refine ⟨empty, base, values, fun i far => ?_, last, released, waiting, held⟩
    cases synced : s.ring.synced with
    | true => exact near synced i far
    | false => rw [empty synced]; exact nearSlots_empty i far

section
variable {s t : State} {Q R : Vector Slot 16 → Prop}

theorem RingAt.imp (h : RingAt Q s) (sub : Q s.ring.slots → R s.ring.slots) : RingAt R s :=
  { h with slots := fun synced => sub (h.slots synced) }

theorem ringAt_reads (Q : Vector Slot 16 → Prop) : Reads [.phase, .bank, .ring, .waiting] (RingAt Q) := by
  intro s t same h
  have phase : t.phase = s.phase := same .phase (by decide)
  have bank : t.bank = s.bank := same .bank (by decide)
  have waits : t.ring.waiting = s.ring.waiting := same .waiting (by decide)
  have loose : t.ring = { s.ring with waiting := t.ring.waiting } := same .ring (by decide)
  have ring : t.ring = s.ring := loose.trans (by rw [waits])
  obtain ⟨empty, base, values, slots, last, released, waiting, held⟩ := h
  constructor <;> simp only [ring, bank, phase] <;> assumption

theorem ringAt_of_reset {w : List Arrival} (ring : t.ring = { Ring.afterReset with waiting := w })
    (waiting : ∀ a ∈ w, a.count < t.bank.modulus ∧ a.sample.values.InIu) (held : t.phase ≠ .running → w = []) :
    RingAt Q t := by
  constructor <;> rw [ring]
  · exact fun _ => rfl
  · nofun
  · exact slotsInIu_empty
  · nofun
  · intro k
    rw [show (Ring.afterReset.lastValues)[k] = Phases.zero by simp [Ring.afterReset]]
    decide
  · nofun
  · exact waiting
  · exact fun h => ⟨rfl, held h⟩

theorem hold_ringAt (s : State) (phase : RunPhase) : RingAt Q (s.hold phase) :=
  ringAt_of_reset (w := []) rfl nofun fun _ => rfl

theorem driveReset_ringAt (h : RingAt Q s) : RingAt Q s.driveReset := by
  unfold State.driveReset
  split <;> first
    | exact hold_ringAt _ _
    | exact (ringAt_reads Q).after (setPins_leaves s _) (by decide) h

/-- R37: a swap that keeps the frequency keeps the modulus; one that changes it empties the ring. -/
theorem swapped_ringAt (d : Word) (h : RingAt Q s) : RingAt Q (s.swapped d) := by
  obtain ⟨empty, base, values, slots, last, released, waiting, held⟩ := h
  have ring : (s.swapped d).ring = s.ring.onSwap s.bank (s.swapped d).bank := s.swapped_ring d
  have phase : (s.swapped d).phase = s.phase := s.swapped_phase d
  unfold Ring.onSwap frequencyChanged at ring
  split at ring
  · constructor <;> rw [ring]
    · exact fun _ => rfl
    · nofun
    · exact slotsInIu_empty
    · nofun
    · exact last
    · exact released
    · nofun
    · exact fun _ => ⟨rfl, rfl⟩
  · next same =>
    have modulus : (s.swapped d).bank.modulus = s.bank.modulus := by
      simp only [bne_iff_ne, ne_eq, not_not] at same
      simp only [Bank.modulus, same]
    constructor <;> simp only [ring, modulus, phase] <;> assumption

theorem RingAt.setWaiting (h : RingAt Q s) {w : List Arrival} (running : s.phase = .running)
    (waiting : ∀ a ∈ w, a.count < s.bank.modulus ∧ a.sample.values.InIu) :
    RingAt Q (s.setRing { s.ring with waiting := w }) :=
  { h with waiting := waiting, held := fun h => absurd running h }

/-- R5 to R8: an arrival handed over has a count below M and scaled values. -/
theorem intakeSample_ringAt (f : SampleFields) (running : s.phase = .running) (h : RingAt Q s) :
    RingAt Q (s.intakeSample f) := by
  have counted (c : Counters) : RingAt Q (s.setIntake { s.intake with counters := c }) :=
    (ringAt_reads Q).after (setCounters_leaves s c) (by decide) h
  unfold State.intakeSample
  split
  · exact counted _
  · next below =>
    split
    · exact counted _
    · next k _ =>
      refine (counted _).setWaiting running fun a mem => ?_
      rcases List.mem_append.1 mem with old | new
      · exact h.waiting a old
      · rw [List.mem_singleton.1 new]
        exact ⟨not_le.1 below, saturate_inIu _, saturate_inIu _, saturate_inIu _⟩

theorem RequestCode.handles_waiting (c : RequestCode) : .waiting ∉ c.handles := by cases c <;> decide

theorem ringAt_keptByInputs (Q : Vector Slot 16 → Prop) : KeptByInputs (RingAt Q) where
  handle t c r _ _ _ := by
    refine (ringAt_reads Q).after (close_leaves t r (handlerOf_leaves t c r)) ?_
    simp only [List.mem_append, not_or]
    cases c <;> decide
  answer t r _ p _ _ := (ringAt_reads Q).after (answer_leaves t r p) (by decide)
  straps t _ := (ringAt_reads Q).after (setPins_leaves t _) (by decide)
  receiveM t frame running h := by
    unfold State.receiveM
    split
    · split
      · exact (ringAt_reads Q).after (countMalformed_leaves t) (by decide) h
      · exact intakeSample_ringAt _ running h
      · exact (ringAt_reads Q).after (takeRequest_leaves t _) (by decide) h
    · exact h
  receiveC t frame _ := (ringAt_reads Q).after (receiveC_leaves t frame) (by decide)
  edge t high := (ringAt_reads Q).after (edge_leaves t high) (by decide)
  loseSignal t link mid _ := (ringAt_reads Q).after (loseSignal_leaves t link mid) (by decide)
  regainSync t link _ := (ringAt_reads Q).after (regainSync_leaves t link) (by decide)
  finishClone t r _ _ := (ringAt_reads Q).after (finishClone_leaves t r) (by decide)
  finishCommit _ r _ service h :=
    finishCommit_keeps r service.running (fun _ frame => (ringAt_reads Q).after frame (by decide) h)
      (fun _ d _ => swapped_ringAt d) fun u g => (ringAt_reads Q).after (deliver_leaves u g) (by decide)
  completeAudit t _ := (ringAt_reads Q).after (completeAudit_leaves t) (by decide)
  endPulse t _ := (ringAt_reads Q).after (endPulse_leaves t) (by decide)

/-! ### One released set -/

/-- While the part runs the ring is SYNCED. -/
def State.SyncedRuns (s : State) : Prop := s.phase = .running → s.ring.synced = true

theorem syncedRuns_reads : Reads [.phase, .ring] State.SyncedRuns := by
  intro s t same h running
  have ring : t.ring = { s.ring with waiting := t.ring.waiting } := same .ring (by decide)
  have phase : t.phase = s.phase := same .phase (by decide)
  rw [ring]
  exact h (phase ▸ running)

/-- R122: a commit's completion makes no swap at once in a SYNCED ring. -/
theorem finishCommit_of_synced (r : Request) (synced : s.ring.synced = true) :
    Leaves [.store, .swap, .linkMOut, .engine] s (finishCommit s r) := by
  obtain ⟨x, p, ⟨eq, -⟩ | ⟨d, -, unsynced, -⟩⟩ := finishCommit_cases s r
  · exact eq ▸ commitAnswered_leaves s r x p
  · exact absurd (synced.symm.trans unsynced) (by decide)

theorem syncedRuns_keptByInputs : KeptByInputs State.SyncedRuns :=
  .of_reads_commit syncedRuns_reads (by decide) fun _ r _ service h =>
    syncedRuns_reads.after (finishCommit_of_synced r (h service.running)) (by decide) h

theorem driveReset_syncedRuns (h : s.SyncedRuns) : s.driveReset.SyncedRuns := by
  unfold State.driveReset
  split <;> first | exact h | exact nofun

/-- What is known of the ring and the released set at a place besides (R29, R31). -/
def Place.Knows (s : State) : Place → Prop
  | .checked => s.SyncedRuns
  | .formed set => set.count < 3840
  | .updated set => set.count < 3840
  | _ => True

theorem takeAside_knows (p : Place) (x : Aside) (h : p.Knows s) : p.Knows (s.takeAside x) := by
  cases p with
  | checked => exact syncedRuns_keptByInputs.aside x (fun _ => nofun) (fun _ => driveReset_syncedRuns h) h
  | _ => exact h

/-- R33: the last released values are a slot's, or the ones before. -/
theorem formSet_lastValues_inIu (b : Bank) {r : Ring} (values : SlotsInIu r.slots)
    (last : ∀ k : Fin 8, (r.lastValues[k]).InIu) (k : Fin 8) :
    ((lastValuesAfter (formSet b r) r.lastValues)[k]).InIu := by
  simp only [lastValuesAfter, ReleasedSet.values, formSet, Fin.getElem_fin, Vector.getElem_ofFn]
  split
  · simp only [Option.map_some, Option.getD_some, setSource]
    split
    · next x place =>
      split
      · exact values 0 k x place
      · exact last k
    · exact last k
  · exact last k

theorem takeBoundary_ringAt (fig : ArcFigures) (h : RingAt Q s) : RingAt Q (s.takeBoundary fig) :=
  takeBoundary_keeps (fun t g => (ringAt_reads Q).after (deliver_leaves t g) (by decide))
    (fun t n => (ringAt_reads Q).after (setEvents_leaves t _ n) (by decide))
    (fun t => (ringAt_reads Q).after (rollFlags_leaves t) (by decide)) (fun _ d _ => swapped_ringAt d)
    (fun t fig e o => (ringAt_reads Q).after (boundaryBlocks_leaves t fig e o) (by decide)) fig h

theorem Bank.modulus_le (b : Bank) : b.modulus ≤ 3840 := by rcases b.modulus_cases with h | h <;> omega

/-- R29, R35: a set released and handed on leaves the slots to the cascade. -/
theorem ringAt_keptThroughSets (Q : Vector Slot 16 → Prop) :
    KeptThroughSets (fun _ => True) fun p t => RingAt Q t ∧ p.Knows t where
  aside p t x _ h :=
    ⟨(ringAt_keptByInputs Q).aside x (fun _ => hold_ringAt _ _) (fun _ => driveReset_ringAt h.1) h.1,
      takeAside_knows p x h.2⟩
  abandoned _ _ _ h := ⟨h.1, trivial⟩
  check _ synced h := ⟨h.1, fun _ => synced⟩
  noteSet t running h := by
    have base := h.1.base (h.2 running)
    refine ⟨?_, base.trans_le (Bank.modulus_le _)⟩
    exact { h.1 with last := fun k => formSet_lastValues_inIu t.bank h.1.values h.1.last k }
  intakeRelease t set _ h := ⟨(ringAt_reads Q).after (intakeRelease_leaves t set) (by decide) h.1, h.2⟩
  noteReleased t set h := ⟨{ h.1 with released := fun n mem => Option.mem_some_iff.1 mem ▸ h.2 }, h.2⟩
  track t set _ h := ⟨(ringAt_reads Q).after (track_leaves t _ _) (by decide) h.1, trivial⟩
  feedWindows t _ i v h := ⟨(ringAt_reads Q).after (feedWindows_leaves t i v) (by decide) h.1, trivial⟩
  compose t _ count out h := ⟨(ringAt_reads Q).after (compose_leaves t count out) (by decide) h.1, trivial⟩
  sendC t _ frame _ h := ⟨(ringAt_reads Q).after (sendC_leaves t frame) (by decide) h.1, trivial⟩
  leaveC t _ count h := ⟨(ringAt_reads Q).after (leaveC_leaves t count) (by decide) h.1, trivial⟩
  done _ h := ⟨h.1, trivial⟩
  closeCycle t _ h := ⟨(ringAt_reads Q).after (closeCycle_leaves t) (by decide) h.1, trivial⟩
  takeBoundary _ fig _ h := ⟨takeBoundary_ringAt fig h.1, trivial⟩

/-! ### The cascade (R29, R30) -/

/-- R27: an empty set at the base is not complete. -/
theorem State.baseComplete_of_empty (h : s.ring.slots[0] = Slot.empty) : s.baseComplete = false := by
  simp only [State.baseComplete, h]
  rfl

/-- What an arrival's handling leaves: the ring's form, the set at the base not complete. -/
structure RingRests (s : State) : Prop where
  form : RingAt NearSlots s
  rest : s.RingAtRest

/-- R25, R28: where nothing is released any more, the arrival's own place is below the release lag, which is at most
8. -/
theorem RingAt.rests {fuel : Nat} {d : Option Nat} (h : RingAt (SlotsWithin fuel d) s)
    (stays : s.releaseCheck d = false) : RingRests s := by
  have lag := (s.bank.count_mem .releaseLag (by decide)).2
  simp only [Param.hi] at lag
  refine ⟨{ h with slots := fun synced i far => ?_ }, fun _ synced => ?_⟩ <;>
    simp only [State.releaseCheck, synced, Bool.true_and, Bool.or_eq_false_iff] at stays
  · refine (h.slots synced).far i far fun same => ?_
    have near := stays.2
    simp only [same, lagHolds, decide_eq_false_iff_not, not_le] at near
    omega
  · exact stays.1

/-- R29, R30: with as many sets to go as there may be occupied slots, the cascade ends only where nothing is released.
-/
theorem cascade_rests (fuel : Nat) {sets : List SetAsides} {d : Option Nat} (running : s.phase = .running)
    (h : RingAt (SlotsWithin fuel d) s) (near : ∀ k ∈ d, k < fuel) (few : fuel ≤ 16) :
    RingRests (s.cascade fuel sets d) := by
  induction fuel generalizing sets d s with
  | zero =>
    refine ⟨h.imp fun within i _ => within.fuel i (Nat.zero_le _), fun _ synced => ?_⟩
    exact s.baseComplete_of_empty ((h.slots synced).fuel 0 (Nat.le_refl 0))
  | succ fuel ih =>
    simp only [State.cascade]
    split
    · next release =>
      have synced : s.ring.synced = true := by
        simp only [State.releaseCheck, Bool.and_eq_true] at release; exact release.1
      have released := (ringAt_keptThroughSets _).releaseSet (x := sets.headD {}) (Allowed.of_all fun _ _ => trivial)
        running synced ⟨h, trivial⟩
      have runs := State.running_of_synced (sets.headD {}) running synced
      revert released runs
      generalize (s.pause (sets.headD {}).checked fun t => t.releaseSet (sets.headD {})) = t
      rintro ⟨released, -⟩ runs
      split
      · next still =>
        have modulus : 0 < t.bank.modulus := by rcases t.bank.modulus_cases with m | m <;> omega
        refine ih (runs still) ?_ (fun k mem => ?_) (by omega)
        · exact
            { empty := fun unsynced => absurd (still.symm.trans unsynced) (by decide)
              base := fun _ => Nat.mod_lt _ modulus
              values := released.values.shift
              slots := fun _ => (released.slots still).shift
              last := released.last, released := released.released, waiting := released.waiting
              held := fun held => absurd (runs still) held }
        · cases d with
          | none => cases mem
          | some d =>
            cases d with
            | zero => cases mem
            | succ d =>
              cases mem
              exact Nat.lt_of_succ_lt_succ (near _ rfl)
      · next ended =>
        have ended : t.ring.synced = false := by simpa using ended
        exact ⟨{ released with slots := fun synced => absurd (synced.symm.trans ended) (by decide) },
          fun _ synced => absurd (synced.symm.trans ended) (by decide)⟩
    · next stays => exact h.rests (by simpa using stays)

/-! ### An arrival (R20 to R24) -/

theorem RingAt.store {fuel : Nat} {d : Option Nat} {r : Ring} {i : Fin 16} {a : Arrival} (h : RingAt Q s)
    (running : s.phase = .running) (range : a.sample.values.InIu) (last : r.lastValues = s.ring.lastValues)
    (released : r.lastReleased = s.ring.lastReleased) (waiting : r.waiting = s.ring.waiting) (synced : r.synced = true)
    (base : r.base < s.bank.modulus) (values : SlotsInIu r.slots)
    (within : SlotsWithin fuel d (r.store i a.source a.sample).slots) :
    RingAt (SlotsWithin fuel d) (s.setRing (r.store i a.source a.sample)) where
  empty unsynced := absurd (synced.symm.trans unsynced) (by decide)
  base _ := base
  values := values.store i a.source range
  slots _ := within
  last := last ▸ h.last
  released := released ▸ h.released
  waiting := waiting ▸ h.waiting
  held held := absurd running held

/-- R20, R24: a ring started at an arrival holds it alone, in the slot at the base. -/
theorem RingAt.startAt {a : Arrival} (h : RingAt Q s) (running : s.phase = .running)
    (may : a.count < s.bank.modulus ∧ a.sample.values.InIu) :
    RingAt (SlotsWithin 16 (some 0)) (s.setRing (s.ring.startAt a)) :=
  h.store running may.2 rfl rfl rfl rfl may.1 slotsInIu_empty (SlotsWithin.store nearSlots_empty 0 _)

/-- R183: a discarded arrival, or a resync, is counted by intake and by the health block. -/
theorem countHealth_leaves {u : State} (counted : Leaves [.counters] t u) (a : Attribute) (n : Nat) :
    Leaves [.counters, .health] t (u.countHealth a n) :=
  counted.andThen (setHealth_leaves u _)

/-- R20 to R24: the oldest waiting arrival taken. -/
theorem takeNext_ring (sets : List SetAsides) (running : s.phase = .running) (h : RingAt NearSlots s) :
    RingAt NearSlots (s.takeNext sets) ∧ (s.RingAtRest → (s.takeNext sets).RingAtRest) := by
  have ended {t : State} (rests : RingRests t) : RingAt NearSlots t ∧ (s.RingAtRest → t.RingAtRest) :=
    ⟨rests.form, fun _ => rests.rest⟩
  unfold State.takeNext
  split
  · exact ⟨h, id⟩
  · next a rest waits =>
    have may := h.waiting a (waits ▸ List.mem_cons_self)
    have took : RingAt NearSlots (s.setRing { s.ring with waiting := rest }) :=
      h.setWaiting running fun b mem => h.waiting b (waits ▸ List.mem_cons_of_mem _ mem)
    have atRest : s.RingAtRest → (s.setRing { s.ring with waiting := rest }).RingAtRest := id
    have tookRuns : (s.setRing { s.ring with waiting := rest }).phase = .running := running
    have tookMay : a.count < (s.setRing { s.ring with waiting := rest }).bank.modulus ∧ a.sample.values.InIu := may
    revert took tookRuns atRest tookMay
    generalize s.setRing { s.ring with waiting := rest } = t
    intro took atRest tookRuns tookMay
    obtain ⟨-, eq⟩ | ⟨synced, inside, eq⟩ | ⟨-, -, -, eq⟩ | ⟨-, -, -, eq⟩ := t.takeArrival_cases sets a <;> rw [eq]
    · exact ended (cascade_rests 16 tookRuns (took.startAt tookRuns tookMay) (by simp) (Nat.le_refl 16))
    · unfold State.arriveInside
      split
      · have counted : Leaves [.counters] t t.countDuplicate := setCounters_leaves t _
        exact ⟨(ringAt_reads _).after (countHealth_leaves counted _ _) (by decide) took, atRest⟩
      · refine ended (cascade_rests 16 tookRuns ?_ (fun k mem => Option.mem_some_iff.1 mem ▸ inside) (Nat.le_refl 16))
        exact took.store tookRuns tookMay.2 rfl rfl rfl synced (took.base synced) took.values
          (SlotsWithin.store (took.slots synced) _ _)
    · have started := took.startAt tookRuns tookMay
      have counted : Leaves [.counters] (t.setRing (t.ring.startAt a)) (t.setRing (t.ring.startAt a)).countResync :=
        setCounters_leaves _ _
      have recorded := (countHealth_leaves counted streamOrderIndex 8).andThen
        (record_leaves _ (.resync a.source t.ring.occupied))
      exact ended (cascade_rests 16 tookRuns ((ringAt_reads _).after recorded (by decide) started) (by simp)
        (Nat.le_refl 16))
    · have counted : Leaves [.counters] t t.countLate := setCounters_leaves t _
      exact ⟨(ringAt_reads _).after (countHealth_leaves counted _ _) (by decide) took, atRest⟩

/-! ### Every command -/

theorem RingAt.of_start (h : RingAt Q s) (held : s.phase ≠ .running) (ring : t.ring = s.ring) : RingAt Q t := by
  obtain ⟨unsynced, none⟩ := h.held held
  obtain ⟨empty, -, values, -, last, released, -, -⟩ := h
  constructor <;> rw [ring]
  · exact empty
  · exact fun synced => absurd (synced.symm.trans unsynced) (by decide)
  · exact values
  · exact fun synced => absurd (synced.symm.trans unsynced) (by decide)
  · exact last
  · exact released
  · exact fun a mem => absurd (none ▸ mem) (List.not_mem_nil)
  · exact fun _ => ⟨unsynced, none⟩

theorem holdEnds_ringAt (cause : HoldEnd) (straps : BitVec 6) (h : RingAt Q s) :
    RingAt Q (s.holdEnds cause straps) := by
  have lineHigh : RingAt Q (s.setResetN true) := (ringAt_reads Q).after (setPins_leaves s _) (by decide) h
  cases cause with
  | supplyReached =>
    simp only [State.holdEnds, State.supplyReached]
    split <;> [(next held => exact h.of_start (held ▸ nofun) rfl); exact h]
  | resetLineHigh =>
    simp only [State.holdEnds, State.resetReleased]
    split
    · next held => exact h.of_start (held ▸ nofun) rfl
    · next held => exact h.of_start (held ▸ nofun) rfl
    · exact lineHigh

theorem endSelfTest_ringAt (h : RingAt Q s) : RingAt Q s.endSelfTest := by
  unfold State.endSelfTest State.powerOnTest State.hardTest
  generalize TableStore.initialised = initial
  split
  · next held => simp only; split <;> exact h.of_start (held ▸ nofun) rfl
  · next held => split <;> exact h.of_start (held ▸ nofun) rfl
  · exact h

theorem ringAt_keptByCommands : KeptByCommands (RingAt NearSlots) where
  toKeptByInputs := ringAt_keptByInputs NearSlots
  queue _ _ h := { h with }
  supplyStart _ _ := hold_ringAt _ _
  driveReset _ := driveReset_ringAt
  holdEnds _ cause straps := holdEnds_ringAt cause straps
  endSelfTest _ := endSelfTest_ringAt
  finishSoftReset t r _ service h := by
    have blocks : RingAt NearSlots t.softBlocks :=
      ringAt_of_reset rfl h.waiting fun held => absurd service.running held
    exact (ringAt_reads _).after ((deliver_leaves _ _).andThen (answer_leaves _ r _)) (by decide) blocks
  takeNext _ sets running h := (takeNext_ring sets running h).1

theorem ringAtRest_reads : Reads [.phase, .bank, .sources, .ring] State.RingAtRest := by
  intro s t same h running synced
  have phase : t.phase = s.phase := same .phase (by decide)
  have bank : t.bank = s.bank := same .bank (by decide)
  have ring : t.ring = { s.ring with waiting := t.ring.waiting } := same .ring (by decide)
  have intake : t.intake = { s.intake with counters := t.intake.counters } := same .sources (by decide)
  have complete : t.baseComplete = s.baseComplete := by
    unfold State.baseComplete State.required
    rw [ring, bank, intake]
  rw [complete]
  exact h (phase ▸ running) (by rw [ring] at synced; exact synced)

theorem State.ringAtRest_of_unsynced (unsynced : s.ring.synced = false) : s.RingAtRest :=
  fun _ synced => absurd (synced.symm.trans unsynced) (by decide)

/-- R122, R126: a swap made at once finds the ring UNSYNCED and leaves it so. -/
theorem finishCommit_ringAtRest (r : Request) (h : s.RingAtRest) : (finishCommit s r).RingAtRest := by
  obtain ⟨x, p, ⟨eq, -⟩ | ⟨d, -, unsynced, eq⟩⟩ := finishCommit_cases s r <;> rw [eq]
  · exact ringAtRest_reads.after (commitAnswered_leaves s r x p) (by decide) h
  · have frame := commitAnswered_leaves s r x p
    have ring := frame .ring (by decide)
    refine ringAtRest_reads.after ((deliver_leaves _ _).trans (deliver_leaves _ _)) (by decide)
      (State.ringAtRest_of_unsynced ?_)
    rw [State.swapped_ring, Ring.onSwap]
    split
    · rfl
    · rw [ring]; exact unsynced

theorem State.ringAtRest_of_held (h : RingAt Q s) (held : s.phase ≠ .running) (ring : t.ring = s.ring) :
    t.RingAtRest := State.ringAtRest_of_unsynced (by rw [ring]; exact (h.held held).1)

theorem holdEnds_ringAtRest (cause : HoldEnd) (straps : BitVec 6) (form : RingAt Q s) (h : s.RingAtRest) :
    (s.holdEnds cause straps).RingAtRest := by
  by_cases running : s.phase = .running
  · exact ringAtRest_reads.after (holdEnds_leaves_of_running s cause straps running) (by decide) h
  · refine State.ringAtRest_of_held form running ?_
    cases cause with
    | supplyReached => simp only [State.holdEnds, State.supplyReached]; split <;> rfl
    | resetLineHigh => simp only [State.holdEnds, State.resetReleased]; split <;> rfl

theorem endSelfTest_ringAtRest (form : RingAt Q s) (h : s.RingAtRest) : s.endSelfTest.RingAtRest := by
  by_cases running : s.phase = .running
  · rwa [endSelfTest_of_running s running]
  · refine State.ringAtRest_of_held form running ?_
    unfold State.endSelfTest State.powerOnTest State.hardTest
    generalize TableStore.initialised = initial
    split <;> [(simp only; split <;> rfl); (split <;> rfl); rfl]

theorem ringRests_keptByCommands : KeptByCommands fun t => RingAt NearSlots t ∧ t.RingAtRest where
  toKeptByInputs := (ringAt_keptByInputs NearSlots).and <|
    .of_reads_commit ringAtRest_reads (by decide) fun _ r _ _ => finishCommit_ringAtRest r
  queue t rest h := ⟨ringAt_keptByCommands.queue t rest h.1, h.2⟩
  supplyStart _ _ := ⟨hold_ringAt _ _, State.ringAtRest_of_unsynced rfl⟩
  driveReset t h := by
    refine ⟨driveReset_ringAt h.1, ?_⟩
    unfold State.driveReset
    split <;> first | exact State.ringAtRest_of_unsynced rfl | exact h.2
  holdEnds _ cause straps h := ⟨holdEnds_ringAt cause straps h.1, holdEnds_ringAtRest cause straps h.1 h.2⟩
  endSelfTest _ h := ⟨endSelfTest_ringAt h.1, endSelfTest_ringAtRest h.1 h.2⟩
  finishSoftReset t r rest service h := by
    refine ⟨ringAt_keptByCommands.finishSoftReset t r rest service h.1, ?_⟩
    exact ringAtRest_reads.after ((deliver_leaves t.softBlocks _).andThen (answer_leaves _ r _)) (by decide)
      (State.ringAtRest_of_unsynced rfl)
  takeNext _ sets running h := (takeNext_ring sets running h.1).imp_right fun rest => rest h.2

end

/-- Settles O18: the cascade, `cascade_rests`, ends only where the release check fails; between two arrivals a swap made
at once is the only hand on bank, sources or slots, and it finds the ring UNSYNCED. -/
theorem ringKeepsItsForm : Obligations.RingKeepsItsForm := fun s t inv run =>
  ⟨t.ringInv_iff.2 (ringAt_keptByCommands.step (s.ringInv_iff.1 inv) run), fun rest =>
    (ringRests_keptByCommands.step ⟨s.ringInv_iff.1 inv, rest⟩ run).2⟩

end Sys2Proof.Machine

/-! Every command answers a state and takes nothing sent back (log 13): the waiting queue stays, link C's words stay,
and on link M frames join those handed over until a reset cuts them off. -/

namespace Sys2Proof.Machine

/-- What has left and what is handed over, seen from a state `s` on. -/
structure SentOn (s t : State) : Prop where
  pending : t.pending = s.pending
  linkC : ∃ fs, t.linkCOut.sent = s.linkCOut.sent ++ fs
  linkM : (∃ fs, t.linkMOut = { s.linkMOut with handed := s.linkMOut.handed ++ fs })
    ∨ t.phase ≠ .running ∧ ∃ fs n, t.linkMOut = ⟨[], s.linkMOut.sent ++ cutFrames n (s.linkMOut.handed ++ fs)⟩

section
variable {s t u : State}

theorem SentOn.refl (s : State) : SentOn s s := ⟨rfl, ⟨[], by simp⟩, .inl ⟨[], by simp⟩⟩

theorem sentOn_reads (s : State) : Reads [.pending, .phase, .linkMOut, .linkCOut] (SentOn s) := by
  intro t u same h
  have pending : u.pending = t.pending := same .pending (by decide)
  have phase : u.phase = t.phase := same .phase (by decide)
  have linkM : u.linkMOut = t.linkMOut := same .linkMOut (by decide)
  have linkC : u.linkCOut = t.linkCOut := same .linkCOut (by decide)
  obtain ⟨p, c, m⟩ := h
  exact ⟨pending ▸ p, linkC ▸ c, by rw [phase, linkM]; exact m⟩

/-- In a running part nothing handed over has been cut off. -/
theorem SentOn.of_running (h : SentOn s t) (running : t.phase = .running) :
    ∃ fs, t.linkMOut = { s.linkMOut with handed := s.linkMOut.handed ++ fs } :=
  h.linkM.resolve_right fun cut => cut.1 running

/-- R157: a response joins the frames handed over. -/
theorem SentOn.answer (h : SentOn s t) (running : t.phase = .running) (r : Request) (p : Reply) :
    SentOn s (t.answer r p) := by
  unfold State.answer
  split
  · exact ⟨h.pending, h.linkC, h.linkM⟩
  · obtain ⟨fs, handed⟩ := h.of_running running
    refine ⟨h.pending, h.linkC, .inl ⟨fs ++ [t.responseFrame r p], ?_⟩⟩
    simp [State.removeHead, State.sendM, Transmitter.hand, State.setEngine, handed]

/-- R95, R157: a reset leaves what has left and the first words of what was handed over. -/
theorem SentOn.cut (h : SentOn s t) (held : u.phase ≠ .running) (pending : u.pending = t.pending) {m c : Nat}
    (linkM : u.linkMOut = t.linkMOut.cut m) (linkC : u.linkCOut = t.linkCOut.cut c) : SentOn s u := by
  obtain ⟨cs, left⟩ := h.linkC
  refine ⟨pending.trans h.pending, ⟨cs ++ cutFrames c t.linkCOut.handed, ?_⟩, .inr ⟨held, ?_⟩⟩
  · rw [linkC, Transmitter.cut, left, List.append_assoc]
  · rw [linkM]
    obtain ⟨fs, handed⟩ | ⟨-, fs, n, out⟩ := h.linkM
    · exact ⟨fs, m, by rw [handed, Transmitter.cut]⟩
    · exact ⟨fs, n, by rw [out]; simp [Transmitter.cut, cutFrames]⟩

theorem SentOn.supplyStart (h : SentOn s t) : SentOn s t.supplyStart := h.cut nofun rfl rfl rfl

theorem SentOn.driveReset (h : SentOn s t) : SentOn s t.driveReset := by
  unfold State.driveReset
  split <;> first
    | exact h.cut nofun rfl rfl rfl
    | exact (sentOn_reads s).after (setPins_leaves t _) (by decide) h

theorem sentOn_keptByInputs (s : State) : KeptByInputs (SentOn s) where
  handle t c r _ head _ h := by
    have frame := handlerOf_leaves t c r
    have handled : SentOn s (handlerOf c t r).state :=
      (sentOn_reads s).after frame (by cases c <;> decide) h
    have runs : (handlerOf c t r).state.phase = .running := (frame .phase c.handles_phase).trans head.running
    unfold Handled.close
    split <;> [exact handled.answer runs r _; exact handled]
  answer _ r _ p running _ h := h.answer running r p
  straps t _ := (sentOn_reads s).after (setPins_leaves t _) (by decide)
  receiveM t frame _ := (sentOn_reads s).after (receiveM_leaves t frame) (by decide)
  receiveC t frame _ := (sentOn_reads s).after (receiveC_leaves t frame) (by decide)
  edge t high := (sentOn_reads s).after (edge_leaves t high) (by decide)
  loseSignal t link mid _ := (sentOn_reads s).after (loseSignal_leaves t link mid) (by decide)
  regainSync t link _ := (sentOn_reads s).after (regainSync_leaves t link) (by decide)
  finishClone t r _ service h :=
    SentOn.answer ((sentOn_reads s).after (setShadow_leaves t _) (by decide) h) service.running r _
  finishCommit t r _ service h := by
    have answered (x : Option Word) (p : Reply) :
        SentOn s ((t.setStore { t.store with pendingSwap := x }).answer r p) :=
      SentOn.answer ((sentOn_reads s).after (setPending_leaves t x) (by decide) h) service.running r p
    obtain ⟨x, p, ⟨eq, -⟩ | ⟨d, -, -, eq⟩⟩ := finishCommit_cases t r <;> rw [eq]
    · exact answered x p
    · exact (sentOn_reads s).after (swapAtOnce_leaves _ d) (by decide) (answered x p)
  completeAudit t _ := (sentOn_reads s).after (completeAudit_leaves t) (by decide)
  endPulse t _ := (sentOn_reads s).after (endPulse_leaves t) (by decide)

theorem sentOn_keptByArrivals (s : State) : KeptByArrivals (fun _ => True) fun _ => SentOn s where
  aside _ t x _ h := (sentOn_keptByInputs s).aside x (fun _ => h.supplyStart) (fun _ => h.driveReset) h
  abandoned _ _ _ h := h
  check _ _ h := h
  noteSet t _ := (sentOn_reads s).after (noteSet_leaves t _) (by decide)
  intakeRelease t set _ := (sentOn_reads s).after (intakeRelease_leaves t set) (by decide)
  noteReleased t set := (sentOn_reads s).after (noteReleased_leaves t set) (by decide)
  track t set _ := (sentOn_reads s).after (track_leaves t _ _) (by decide)
  feedWindows t _ i v := (sentOn_reads s).after (feedWindows_leaves t i v) (by decide)
  compose t _ count out := (sentOn_reads s).after (compose_leaves t count out) (by decide)
  sendC _ _ _ _ h := ⟨h.pending, h.linkC, h.linkM⟩
  leaveC t _ count h := by
    obtain ⟨cs, left⟩ := h.linkC
    refine ⟨h.pending, ⟨cs ++ t.linkCOut.handed, ?_⟩, h.linkM⟩
    rw [← List.append_assoc, ← left]
    rfl
  done _ h := h
  closeCycle t _ := (sentOn_reads s).after (closeCycle_leaves t) (by decide)
  takeBoundary _ fig _ :=
    takeBoundary_keeps (fun t g => (sentOn_reads s).after (deliver_leaves t g) (by decide))
      (fun t n => (sentOn_reads s).after (setEvents_leaves t _ n) (by decide))
      (fun t => (sentOn_reads s).after (rollFlags_leaves t) (by decide))
      (fun t d _ => (sentOn_reads s).after (swapped_leaves t d) (by decide))
      (fun t fig e o => (sentOn_reads s).after (boundaryBlocks_leaves t fig e o) (by decide)) fig
  ring _ _ _ h := ⟨h.pending, h.linkC, h.linkM⟩
  countDuplicate t := (sentOn_reads s).after (setCounters_leaves t _) (by decide)
  countLate t := (sentOn_reads s).after (setCounters_leaves t _) (by decide)
  countResync t := (sentOn_reads s).after (setCounters_leaves t _) (by decide)
  countHealth t _ _ := (sentOn_reads s).after (setHealth_leaves t _) (by decide)
  record t body := (sentOn_reads s).after (record_leaves t body) (by decide)

/-- What no transmitter takes part in. -/
theorem SentOn.of_same (pending : t.pending = s.pending) (linkM : t.linkMOut = s.linkMOut)
    (linkC : t.linkCOut = s.linkCOut) : SentOn s t :=
  ⟨pending, ⟨[], by simp [linkC]⟩, .inl ⟨[], by simp [linkM]⟩⟩

theorem holdEnds_sentOn (s : State) (cause : HoldEnd) (straps : BitVec 6) : SentOn s (s.holdEnds cause straps) := by
  cases cause with
  | supplyReached => simp only [State.holdEnds, State.supplyReached]; split <;> exact .of_same rfl rfl rfl
  | resetLineHigh => simp only [State.holdEnds, State.resetReleased]; split <;> exact .of_same rfl rfl rfl

theorem endSelfTest_sentOn (s : State) : SentOn s s.endSelfTest := by
  unfold State.endSelfTest State.powerOnTest State.hardTest
  generalize TableStore.initialised = initial
  split <;> [(simp only; split); split; skip] <;> exact .of_same rfl rfl rfl

theorem exec_sentOn (c : Instr) (run : exec c s = .next t) : SentOn s t :=
  (sentOn_keptByInputs s).exec c run (.refl s) (fun _ => (SentOn.refl s).supplyStart)
    (fun _ => (SentOn.refl s).driveReset) (fun cause straps _ => holdEnds_sentOn s cause straps)
    (fun _ => endSelfTest_sentOn s)
    (fun r _ _ service => by
      have blocks : SentOn s (s.softBlocks.recordReset .soft .pass) := .of_same rfl rfl rfl
      exact blocks.answer service.running r _)
    fun _ _ running => (sentOn_keptByArrivals s).takeNext (fun _ _ => trivial) running (.refl s)

end

theorem exec_next (c : Instr) (s : State) : ∃ t, exec c s = .next t := by cases c <;> exact ⟨_, rfl⟩

/-- Settles O2: no command refuses; the transmitters are written by answers, the frame of a released set and the cut
of a reset alone. -/
theorem everyCommandAnswersAState : Obligations.EveryCommandAnswersAState := by
  intro c s
  obtain ⟨t, run⟩ := exec_next c s
  obtain ⟨pending, linkC, linkM⟩ := exec_sentOn c run
  refine ⟨t, run, pending, linkC, ?_⟩
  obtain ⟨fs, handed⟩ | ⟨held, fs, n, out⟩ := linkM
  · exact ⟨fs, .inl handed⟩
  · exact ⟨fs, .inr ⟨held, n, out⟩⟩

end Sys2Proof.Machine

/-! The shadow bank's contents reach no command of sample processing while no swap is pending (R116): each thing such a
command does gives, on two states alike but for the shadow, two states alike but for it. -/

namespace Sys2Proof.Machine

/-! ### What a state with another shadow reads, and its updates -/

section
variable (t : TableStore) (b : Bank)

theorem TableStore.setShadow_frame :
    t.setShadow b = { t with bank0 := (t.setShadow b).bank0, bank1 := (t.setShadow b).bank1 } := by
  unfold TableStore.setShadow; split <;> rfl

@[simp] theorem TableStore.setShadow_pendingSwap : (t.setShadow b).pendingSwap = t.pendingSwap := by
  rw [TableStore.setShadow_frame]
@[simp] theorem TableStore.setShadow_recorded : (t.setShadow b).recorded = t.recorded := by
  rw [TableStore.setShadow_frame]
@[simp] theorem TableStore.setShadow_auditInFlight : (t.setShadow b).auditInFlight = t.auditInFlight := by
  rw [TableStore.setShadow_frame]
@[simp] theorem TableStore.setShadow_auditCounter : (t.setShadow b).auditCounter = t.auditCounter := by
  rw [TableStore.setShadow_frame]
@[simp] theorem TableStore.setShadow_tableFault : (t.setShadow b).tableFault = t.tableFault := by
  rw [TableStore.setShadow_frame]

/-- R129: an audit's end leaves the shadow. -/
theorem TableStore.endAudit_setShadow (fault : Bool) :
    ({ t.setShadow b with auditInFlight := false, tableFault := fault } : TableStore) =
      TableStore.setShadow { t with auditInFlight := false, tableFault := fault } b := by
  simp only [TableStore.setShadow]; split <;> rfl

/-- R128: the audit count leaves the shadow. -/
theorem TableStore.auditStep_setShadow (cycles : Nat) :
    (t.setShadow b).auditStep cycles = (t.auditStep cycles).setShadow b := by
  simp only [TableStore.auditStep, TableStore.setShadow]
  split_ifs <;> rfl

end

section
variable (s : State) (b : Bank)

@[simp] theorem State.withShadow_phase : (s.withShadow b).phase = s.phase := rfl
@[simp] theorem State.withShadow_pins : (s.withShadow b).pins = s.pins := rfl
@[simp] theorem State.withShadow_linkMSynced : (s.withShadow b).linkMSynced = s.linkMSynced := rfl
@[simp] theorem State.withShadow_intake : (s.withShadow b).intake = s.intake := rfl
@[simp] theorem State.withShadow_ring : (s.withShadow b).ring = s.ring := rfl
@[simp] theorem State.withShadow_tracker : (s.withShadow b).tracker = s.tracker := rfl
@[simp] theorem State.withShadow_transform : (s.withShadow b).transform = s.transform := rfl
@[simp] theorem State.withShadow_composer : (s.withShadow b).composer = s.composer := rfl
@[simp] theorem State.withShadow_linkC : (s.withShadow b).linkC = s.linkC := rfl
@[simp] theorem State.withShadow_store : (s.withShadow b).store = s.store.setShadow b := rfl
@[simp] theorem State.withShadow_supervision : (s.withShadow b).supervision = s.supervision := rfl
@[simp] theorem State.withShadow_engine : (s.withShadow b).engine = s.engine := rfl
@[simp] theorem State.withShadow_events : (s.withShadow b).events = s.events := rfl
@[simp] theorem State.withShadow_health : (s.withShadow b).health = s.health := rfl
@[simp] theorem State.withShadow_picks : (s.withShadow b).picks = s.picks := rfl
@[simp] theorem State.withShadow_bank : (s.withShadow b).bank = s.bank := TableStore.activeBank_setShadow _ _

@[simp] theorem State.withShadow_setPins (x : Pins) :
    (s.withShadow b).setPins x = (s.setPins x).withShadow b := rfl
@[simp] theorem State.withShadow_setIntake (x : Intake) :
    (s.withShadow b).setIntake x = (s.setIntake x).withShadow b := rfl
@[simp] theorem State.withShadow_setRing (x : Ring) :
    (s.withShadow b).setRing x = (s.setRing x).withShadow b := rfl
@[simp] theorem State.withShadow_setTracker (x : Tracker) :
    (s.withShadow b).setTracker x = (s.setTracker x).withShadow b := rfl
@[simp] theorem State.withShadow_setTransform (x : Transform) :
    (s.withShadow b).setTransform x = (s.setTransform x).withShadow b := rfl
@[simp] theorem State.withShadow_setComposer (x : Composer) :
    (s.withShadow b).setComposer x = (s.setComposer x).withShadow b := rfl
@[simp] theorem State.withShadow_setLinkC (x : LinkC) :
    (s.withShadow b).setLinkC x = (s.setLinkC x).withShadow b := rfl
@[simp] theorem State.withShadow_setSupervision (x : Supervision) :
    (s.withShadow b).setSupervision x = (s.setSupervision x).withShadow b := rfl
@[simp] theorem State.withShadow_setEngine (x : Engine) :
    (s.withShadow b).setEngine x = (s.setEngine x).withShadow b := rfl
@[simp] theorem State.withShadow_setHealth (x : Health) :
    (s.withShadow b).setHealth x = (s.setHealth x).withShadow b := rfl
@[simp] theorem State.withShadow_setEvents (x : EventUnit) (n : Nat) :
    (s.withShadow b).setEvents x n = (s.setEvents x n).withShadow b := rfl
@[simp] theorem State.withShadow_sendC (frame : List Word) :
    (s.withShadow b).sendC frame = (s.sendC frame).withShadow b := rfl
@[simp] theorem State.withShadow_leaveC : (s.withShadow b).leaveC = s.leaveC.withShadow b := rfl

@[simp] theorem State.withShadow_cond : (s.withShadow b).cond = s.cond := by
  funext c
  cases c <;> first | rfl | exact TableStore.setShadow_tableFault _ _

@[simp] theorem changeOffers_withShadow (cs : List Condition) (t : State) (cycle : Nat) (set : Option Nat) :
    changeOffers cs (s.withShadow b) (t.withShadow b) cycle set = changeOffers cs s t cycle set := by
  simp only [changeOffers, State.withShadow_cond]

@[simp] theorem State.withShadow_deliver (g : List (List Offer)) :
    (s.withShadow b).deliver g = (s.deliver g).withShadow b := by
  simp only [State.deliver, State.withShadow_bank, State.withShadow_picks, State.withShadow_engine,
    State.withShadow_events, State.withShadow_setEvents]

@[simp] theorem State.withShadow_offer (os : List Offer) : (s.withShadow b).offer os = (s.offer os).withShadow b :=
  s.withShadow_deliver b _

@[simp] theorem State.withShadow_record (body : EventBody) :
    (s.withShadow b).record body = (s.record body).withShadow b :=
  s.withShadow_deliver b _

@[simp] theorem State.withShadow_offerChanges (before : State) (cs : List Condition) :
    (s.withShadow b).offerChanges (before.withShadow b) cs = (s.offerChanges before cs).withShadow b := by
  simp [State.offerChanges]

/-- R128, R135, R184: the boundary's work reads the active bank alone. -/
theorem State.boundaryBlocks_withShadow (fig : ArcFigures) (e : List Offer) (o : List (List Offer)) :
    (s.withShadow b).boundaryBlocks fig e o = (s.boundaryBlocks fig e o).withShadow b := by
  have health : (s.withShadow b).healthBoundary = s.healthBoundary.withShadow b := by
    simp [State.healthBoundary]
  have arcs : (s.healthBoundary.withShadow b).arcsAndQuiet fig = s.healthBoundary.arcsAndQuiet fig := by
    simp only [State.arcsAndQuiet, State.withShadow_bank]; rfl
  have trips (t : State) : (t.withShadow b).trips = t.trips := by
    simp only [State.trips, State.withShadow_bank, State.withShadow_cond]; rfl
  have audit (t : State) (cycles : Nat) : (t.withShadow b).setStore ((s.store.setShadow b).auditStep cycles) =
      (t.setStore (s.store.auditStep cycles)).withShadow b := by
    rw [TableStore.auditStep_setShadow]; rfl
  simp only [State.boundaryBlocks_eq, health, arcs, State.withShadow_setSupervision, trips, State.withShadow_store,
    State.withShadow_bank, audit, State.withShadow_deliver, State.withShadow_health, State.withShadow_tracker,
    State.withShadow_ring]

end

/-! ### Alike but for the shadow -/

/-- Two states alike but for the shadow, which is `b` in the second; no swap pending. -/
structure ShadowApart (b : Bank) (s s' : State) : Prop where
  eq : s' = s.withShadow b
  idle : s.store.pendingSwap = none

namespace ShadowApart

variable {b : Bank} {s s' : State} (h : ShadowApart b s s')
include h

/-- What commutes with another shadow and touches no pending swap keeps two such states alike. -/
theorem after {f : State → State} {ps : List Part} (frame : Leaves ps s (f s)) (apart : .swap ∉ ps)
    (commutes : f (s.withShadow b) = (f s).withShadow b) : ShadowApart b (f s) (f s') :=
  ⟨by rw [h.eq]; exact commutes, (frame .swap apart).trans h.idle⟩

theorem ite {c c' : Prop} [Decidable c] [Decidable c'] {t t' : State} (same : c' ↔ c) (k : ShadowApart b t t') :
    ShadowApart b (if c then s else t) (if c' then s' else t') := by
  by_cases now : c
  · rwa [if_pos now, if_pos (same.2 now)]
  · rwa [if_neg now, if_neg fun now' => now (same.1 now')]

theorem phase_iff : s'.phase = .running ↔ s.phase = .running := by rw [h.eq]; rfl

theorem whenRunning {f : State → State} (run : ShadowApart b (f s) (f s')) :
    ShadowApart b (s.whenRunning f) (s'.whenRunning f) := run.ite h.phase_iff h

theorem setPins (x : Pins) : ShadowApart b (s.setPins x) (s'.setPins x) := ⟨by rw [h.eq]; rfl, h.idle⟩

theorem setRing (x : Ring) : ShadowApart b (s.setRing x) (s'.setRing x) := ⟨by rw [h.eq]; rfl, h.idle⟩

theorem setLinkC (x : LinkC) : ShadowApart b (s.setLinkC x) (s'.setLinkC x) := ⟨by rw [h.eq]; rfl, h.idle⟩

theorem setLinkMSynced (x : Bool) :
    ShadowApart b { s with linkMSynced := x } { s' with linkMSynced := x } := ⟨by rw [h.eq]; rfl, h.idle⟩

theorem record (body : EventBody) : ShadowApart b (s.record body) (s'.record body) :=
  ⟨by rw [h.eq, State.withShadow_record], h.idle⟩

theorem offerChanges {before before' : State} (k : ShadowApart b before before') (cs : List Condition) :
    ShadowApart b (s.offerChanges before cs) (s'.offerChanges before' cs) :=
  ⟨by rw [h.eq, k.eq, State.withShadow_offerChanges], h.idle⟩

theorem countMalformed : ShadowApart b s.countMalformed s'.countMalformed := ⟨by rw [h.eq]; rfl, h.idle⟩

/-! ### Inputs -/

theorem intakeSample (f : SampleFields) : ShadowApart b (s.intakeSample f) (s'.intakeSample f) := by
  have bank : s'.bank = s.bank := by rw [h.eq, State.withShadow_bank]
  have ring : s'.ring = s.ring := by rw [h.eq]; rfl
  unfold State.intakeSample
  rw [bank, ring]
  refine h.countMalformed.ite Iff.rfl ?_
  cases s.bank.matchIdent f.ident with
  | none => exact ⟨by rw [h.eq]; rfl, h.idle⟩
  | some k => exact ⟨by rw [h.eq]; rfl, h.idle⟩

theorem receiveM (frame : List Word) : ShadowApart b (s.receiveM frame) (s'.receiveM frame) := by
  have synced : s'.linkMSynced = s.linkMSynced := by rw [h.eq]; rfl
  have engine : s'.engine = s.engine := by rw [h.eq]; rfl
  unfold State.receiveM
  refine ShadowApart.ite ?_ (by rw [synced]) h
  cases judgeLinkM frame with
  | malformed => exact h.countMalformed
  | sample f => exact h.intakeSample f
  | request r =>
    have taken : ShadowApart b (s.setEngine (s.engine.offerRequest r)) (s'.setEngine (s'.engine.offerRequest r)) :=
      ⟨by rw [h.eq]; rfl, h.idle⟩
    exact taken.ite (by rw [engine]) h

theorem receiveC (frame : List Word) : ShadowApart b (s.receiveC frame) (s'.receiveC frame) := by
  have linkC : s'.linkC = s.linkC := by rw [h.eq]; rfl
  have bank : s'.bank = s.bank := by rw [h.eq, State.withShadow_bank]
  unfold State.receiveC
  refine ShadowApart.ite ?_ (by rw [linkC]) h
  cases judgeLinkC frame with
  | none => exact h.countMalformed
  | some st =>
    simp only [State.takeStatus, linkC, bank]
    exact (h.setLinkC _).offerChanges h _

theorem edge (high : Bool) : ShadowApart b (s.edge high) (s'.edge high) := by
  have pins : s'.pins = s.pins := by rw [h.eq]; rfl
  have linkC : s'.linkC = s.linkC := by rw [h.eq]; rfl
  have level := h.setPins { s.pins with cblk := high }
  unfold State.edge
  rw [pins]
  refine level.whenRunning ?_
  simp only [State.takeEdge, State.setPins_linkC, linkC]
  exact (level.setLinkC _).offerChanges level _

theorem loseSignal (link : Link) (mid : Bool) : ShadowApart b (s.loseSignal link mid) (s'.loseSignal link mid) := by
  have synced : s'.linkMSynced = s.linkMSynced := by rw [h.eq]; rfl
  have linkC : s'.linkC = s.linkC := by rw [h.eq]; rfl
  have counted (c : Bool) : ShadowApart b (if c then s.countMalformed else s) (if c then s'.countMalformed else s') :=
    h.countMalformed.ite Iff.rfl h
  cases link with
  | m =>
    simp only [State.loseSignal, synced]
    exact ((counted _).setLinkMSynced false).record _
  | c =>
    simp only [State.loseSignal, linkC]
    have port : (if mid && s.linkC.synced then s'.countMalformed else s').linkC =
        (if mid && s.linkC.synced then s.countMalformed else s).linkC := by
      rw [(counted _).eq]; rfl
    rw [port]
    exact ((counted _).setLinkC _).record _

theorem regainSync (link : Link) : ShadowApart b (s.regainSync link) (s'.regainSync link) := by
  have synced : s'.linkMSynced = s.linkMSynced := by rw [h.eq]; rfl
  have linkC : s'.linkC = s.linkC := by rw [h.eq]; rfl
  cases link with
  | m =>
    unfold State.regainSync
    exact h.ite (c := s.linkMSynced) (c' := s'.linkMSynced) (by rw [synced]) ((h.setLinkMSynced true).record _)
  | c =>
    simp only [State.regainSync, linkC]
    exact h.ite Iff.rfl ((h.setLinkC _).record _)

theorem completeAudit : ShadowApart b s.completeAudit s'.completeAudit := by
  have bank : s'.bank = s.bank := by rw [h.eq, State.withShadow_bank]
  have store : s'.store = s.store.setShadow b := by rw [h.eq]; rfl
  have ended (fault : Bool) : ShadowApart b
      (s.setStore { s.store with auditInFlight := false, tableFault := fault })
      (s'.setStore { s'.store with auditInFlight := false, tableFault := fault }) :=
    ⟨by rw [store, TableStore.endAudit_setShadow, h.eq]; rfl, h.idle⟩
  have fault : (s'.store.tableFault || s'.bank.digest != s'.store.recorded) =
      (s.store.tableFault || s.bank.digest != s.store.recorded) := by
    rw [bank, store, TableStore.setShadow_tableFault, TableStore.setShadow_recorded]
  simp only [State.completeAudit, fault]
  exact ((ended _).offerChanges h _).ite (by rw [store, TableStore.setShadow_auditInFlight]) h

theorem endPulse : ShadowApart b s.endPulse s'.endPulse := by
  have engine : s'.engine = s.engine := by rw [h.eq]; rfl
  have events : s'.events = s.events := by rw [h.eq]; rfl
  have ended : ShadowApart b (s.setEvents { s.events with line := false, pulse := none } s.picks)
      (s'.setEvents { s'.events with line := false, pulse := none } s'.picks) := ⟨by rw [h.eq]; rfl, h.idle⟩
  exact ended.ite (by rw [engine, events]) h

/-- R116: what falls inside an arrival, requests and resets apart. -/
theorem takeAside {x : Aside} (may : processingAside x = true) : ShadowApart b (s.takeAside x) (s'.takeAside x) := by
  cases x with
  | serve | cloneCompletion | commitCompletion | powerOn | hardReset => cases may
  | monStraps level =>
    have pins : s'.pins = s.pins := by rw [h.eq]; rfl
    simp only [State.takeAside, pins]
    exact h.setPins _
  | linkMFrame frame => exact h.whenRunning (f := (·.receiveM frame)) (h.receiveM frame)
  | linkCFrame frame => exact h.whenRunning (f := (·.receiveC frame)) (h.receiveC frame)
  | cblkEdge high => exact h.edge high
  | lossOfSignal link mid => exact h.whenRunning (f := (·.loseSignal link mid)) (h.loseSignal link mid)
  | syncRegained link => exact h.whenRunning (f := (·.regainSync link)) (h.regainSync link)
  | auditCompletion => exact h.whenRunning h.completeAudit
  | attentionPulseEnd => exact h.whenRunning h.endPulse

theorem asides {xs : List Aside} (may : xs.all processingAside = true) :
    ShadowApart b (xs.foldl State.takeAside s) (xs.foldl State.takeAside s') := by
  induction xs generalizing s s' with
  | nil => exact h
  | cons x xs ih =>
    rw [List.all_cons, Bool.and_eq_true] at may
    exact ih (h.takeAside may.1) may.2

/-- A place in the handling of an arrival. -/
theorem pause {xs : List Aside} {go go' : State → State} (may : xs.all processingAside = true)
    (goes : ∀ t t', ShadowApart b t t' → ShadowApart b (go t) (go' t')) :
    ShadowApart b (s.pause xs go) (s'.pause xs go') := by
  have taken := h.asides may
  have before : s'.phase = s.phase := by rw [h.eq]; rfl
  have after : (xs.foldl State.takeAside s').phase = (xs.foldl State.takeAside s).phase := by rw [taken.eq]; rfl
  simp only [State.pause, before, after]
  split <;> [exact goes _ _ taken; exact taken]

/-! ### A released set (R29, R35) -/

theorem noteSet (set : ReleasedSet) : ShadowApart b (s.noteSet set) (s'.noteSet set) :=
  h.after (f := (·.noteSet set)) (noteSet_leaves s set) (by decide) (by simp [State.noteSet, State.countHeld])

theorem intakeRelease (set : ReleasedSet) : ShadowApart b (s.intakeRelease set) (s'.intakeRelease set) := by
  refine h.after (f := (·.intakeRelease set)) (intakeRelease_leaves s set) (by decide) ?_
  have cleared (t : State) (ns : List (Fin 6)) :
      (t.withShadow b).clearWindows ns = (t.clearWindows ns).withShadow b := by
    induction ns generalizing t with
    | nil => rfl
    | cons n ns ih => exact ih (t.clearWindow n)
  simp [State.intakeRelease, cleared]

theorem noteReleased (set : ReleasedSet) : ShadowApart b (s.noteReleased set) (s'.noteReleased set) :=
  h.after (f := (·.noteReleased set)) (noteReleased_leaves s set) (by decide) rfl

theorem track (count : Nat) (v : Option Phases) : ShadowApart b (s.track count v) (s'.track count v) :=
  h.after (f := (·.track count v)) (track_leaves s count v) (by decide) (by simp [State.track])

theorem feedWindows (i : Nat) (v : Vector (Option Phases) 6) :
    ShadowApart b (s.feedWindows i v) (s'.feedWindows i v) :=
  h.after (f := (·.feedWindows i v)) (feedWindows_leaves s i v) (by decide) (by simp [State.feedWindows])

theorem compose (count : Nat) (out : Composed) : ShadowApart b (s.compose count out) (s'.compose count out) :=
  h.after (f := (·.compose count out)) (compose_leaves s count out) (by decide) (by simp [State.compose])

theorem sendC (frame : List Word) : ShadowApart b (s.sendC frame) (s'.sendC frame) :=
  h.after (f := (·.sendC frame)) (sendC_leaves s frame) (by decide) rfl

theorem leaveC (count : Nat) : ShadowApart b (s.leaveC.countStale count) (s'.leaveC.countStale count) :=
  h.after (f := (·.leaveC.countStale count)) (leaveC_leaves s count) (by decide) (by simp [State.countStale])

theorem closeCycle : ShadowApart b s.closeCycle s'.closeCycle :=
  h.after (f := State.closeCycle) (closeCycle_leaves s) (by decide) (by simp [State.closeCycle])

/-- R52: with no swap pending the boundary reads the active bank alone. -/
theorem takeBoundary (fig : ArcFigures) : ShadowApart b (s.takeBoundary fig) (s'.takeBoundary fig) := by
  have idle' : s'.store.pendingSwap = none := by rw [h.eq]; simpa using h.idle
  have rolled : Leaves [.composer] s s.rollFlags := rollFlags_leaves s
  rw [s.takeBoundary_of_none fig h.idle, s'.takeBoundary_of_none fig idle', h.eq]
  refine ⟨?_, ((rolled.andThen (boundaryBlocks_leaves _ _ _ _)) .swap (by decide)).trans h.idle⟩
  have roll : (s.withShadow b).rollFlags = s.rollFlags.withShadow b := rfl
  have offers : (s.withShadow b).rollOffers = s.rollOffers := by
    unfold State.rollOffers
    rw [roll, changeOffers_withShadow]
    rfl
  rw [roll, offers, State.boundaryBlocks_withShadow]

theorem composed (i : Nat) (fed : Vector (Option Phases) 6) : s'.composed i fed = s.composed i fed := by
  have source : (s.withShadow b).chooseSource = s.chooseSource := by
    unfold State.chooseSource
    rw [State.withShadow_cond]
    rfl
  rw [h.eq]
  simp only [State.composed, State.demand, State.withShadow_bank, source]
  rfl

theorem referenceFrame (count : Nat) (out : Composed) (heldUsed : Bool) :
    s'.referenceFrame count out heldUsed = s.referenceFrame count out heldUsed := by
  rw [h.eq]
  rfl

theorem endCycle {xs : List Aside} (may : xs.all processingAside = true) :
    ShadowApart b (s.endCycle xs) (s'.endCycle xs) := by
  refine h.closeCycle.pause may fun t t' ht => ?_
  have figures : t'.transform = t.transform := by rw [ht.eq]; rfl
  rw [figures]
  exact ht.takeBoundary _

section
variable {x : SetAsides} (may : x.all.all processingAside = true)
include may

omit h in
/-- What falls at each place of a set is among what may fall inside the arrival. -/
theorem at_places : x.checked.all processingAside ∧ x.formed.all processingAside ∧ x.updated.all processingAside
    ∧ x.noted.all processingAside ∧ x.tracked.all processingAside ∧ x.fed.all processingAside
    ∧ x.composed.all processingAside ∧ x.framed.all processingAside ∧ x.sent.all processingAside
    ∧ x.closed.all processingAside := by
  simpa [SetAsides.all, and_assoc] using may

theorem sendSet (count : Nat) (out : Composed) (heldUsed ends : Bool) :
    ShadowApart b (s.sendSet x count out heldUsed ends) (s'.sendSet x count out heldUsed ends) := by
  obtain ⟨-, -, -, -, -, -, -, framed, sent, closed⟩ := at_places may
  unfold State.sendSet
  rw [h.referenceFrame]
  refine (h.sendC _).pause framed fun t t' ht => ?_
  refine (ht.leaveC count).pause sent fun u u' hu => ?_
  cases ends with
  | false => exact hu
  | true => exact hu.endCycle closed

theorem processSet (set : ReleasedSet) (heldUsed : Bool) :
    ShadowApart b (s.processSet x set heldUsed) (s'.processSet x set heldUsed) := by
  obtain ⟨-, -, -, -, tracked, fed, composed, -, -, -⟩ := at_places may
  have bank (t t' : State) (ht : ShadowApart b t t') : t'.bank = t.bank := by rw [ht.eq, State.withShadow_bank]
  have intake (t t' : State) (ht : ShadowApart b t t') : t'.intake = t.intake := by rw [ht.eq]; rfl
  have tracker : s'.tracker = s.tracker := by rw [h.eq]; rfl
  simp only [State.processSet, bank s s' h, intake s s' h, tracker]
  refine (h.track _ _).pause tracked fun t t' ht => ?_
  have feeds : fedValues t' set = fedValues t set := by
    unfold fedValues
    rw [bank t t' ht, intake t t' ht]
  rw [feeds]
  refine (ht.feedWindows _ _).pause fed fun u u' hu => ?_
  rw [hu.composed]
  exact (hu.compose _ _).pause composed fun v v' hv => hv.sendSet may _ _ _ _

theorem handOn (set : ReleasedSet) : ShadowApart b (s.handOn x set) (s'.handOn x set) := by
  obtain ⟨-, -, updated, noted, -, -, -, -, -, -⟩ := at_places may
  refine (h.intakeRelease set).pause updated fun t t' ht => ?_
  have intake : t'.intake = t.intake := by rw [ht.eq]; rfl
  rw [intake]
  exact (ht.noteReleased set).pause noted fun u u' hu => hu.processSet may set _

theorem releaseSet : ShadowApart b (s.releaseSet x) (s'.releaseSet x) := by
  obtain ⟨-, formed, -, -, -, -, -, -, -, -⟩ := at_places may
  have set : formSet s'.bank s'.ring = formSet s.bank s.ring := by rw [h.eq, State.withShadow_bank]; rfl
  simp only [State.releaseSet, set]
  exact (h.noteSet _).pause formed fun t t' ht => ht.handOn may _

end

/-! ### An arrival (R20 to R30) -/

theorem cascade (fuel : Nat) {sets : List SetAsides} (d : Option Nat)
    (may : (sets.flatMap SetAsides.all).all processingAside = true) :
    ShadowApart b (s.cascade fuel sets d) (s'.cascade fuel sets d) := by
  induction fuel generalizing sets d s s' with
  | zero => exact h
  | succ fuel ih =>
    have first : (sets.headD {}).all.all processingAside = true := by
      cases sets with
      | nil => rfl
      | cons x rest => rw [List.flatMap_cons, List.all_append, Bool.and_eq_true] at may; exact may.1
    have later : (sets.tail.flatMap SetAsides.all).all processingAside = true := by
      cases sets with
      | nil => rfl
      | cons x rest => rw [List.flatMap_cons, List.all_append, Bool.and_eq_true] at may; exact may.2
    have check : s'.releaseCheck d = s.releaseCheck d := by
      rw [h.eq]
      simp only [State.releaseCheck, State.baseComplete, State.required, State.withShadow_bank]
      rfl
    have released := h.pause (at_places first).1 fun t t' ht => ht.releaseSet first
    have ring := congrArg State.ring released.eq
    have bank := (congrArg State.bank released.eq).trans (State.withShadow_bank _ _)
    simp only [State.cascade, check, ring, bank]
    refine ShadowApart.ite (ShadowApart.ite ?_ Iff.rfl released) Iff.rfl h
    exact ih (released.setRing _) _ later

theorem countHealth (a : Attribute) (n : Nat) : ShadowApart b (s.countHealth a n) (s'.countHealth a n) :=
  ⟨by rw [h.eq]; rfl, h.idle⟩

theorem takeArrival {sets : List SetAsides} (a : Arrival)
    (may : (sets.flatMap SetAsides.all).all processingAside = true) :
    ShadowApart b (s.takeArrival sets a) (s'.takeArrival sets a) := by
  have ring : s'.ring = s.ring := by rw [h.eq]; rfl
  have bank : s'.bank = s.bank := by rw [h.eq, State.withShadow_bank]
  have duplicate : ShadowApart b s.countDuplicate s'.countDuplicate := ⟨by rw [h.eq]; rfl, h.idle⟩
  have late : ShadowApart b s.countLate s'.countLate := ⟨by rw [h.eq]; rfl, h.idle⟩
  have resync (t t' : State) (ht : ShadowApart b t t') : ShadowApart b t.countResync t'.countResync :=
    ⟨by rw [ht.eq]; rfl, ht.idle⟩
  unfold State.takeArrival
  simp only [ring, bank]
  refine ShadowApart.ite ?_ Iff.rfl ((h.setRing _).cascade 16 _ may)
  split
  · simp only [State.arriveInside, ring]
    exact (duplicate.countHealth _ _).ite Iff.rfl ((h.setRing _).cascade 16 _ may)
  · refine ShadowApart.ite ?_ Iff.rfl (late.countHealth _ _)
    simp only [State.arriveAhead, ring]
    exact (((resync _ _ (h.setRing _)).countHealth _ _).record _).cascade 16 _ may

theorem takeNext {sets : List SetAsides} (may : (sets.flatMap SetAsides.all).all processingAside = true) :
    ShadowApart b (s.takeNext sets) (s'.takeNext sets) := by
  have ring : s'.ring = s.ring := by rw [h.eq]; rfl
  unfold State.takeNext
  simp only [ring]
  split
  · exact h
  · exact (h.setRing _).takeArrival _ may

end ShadowApart

/-- R116: a command of processing on two states alike but for the shadow. -/
theorem exec_shadowApart {b : Bank} {c : Instr} {s s' : State} (h : ShadowApart b s s') (may : processing c = true) :
    ∃ t t', exec c s = .next t ∧ exec c s' = .next t' ∧ ShadowApart b t t' := by
  cases c with
  | lossOfSignal link mid =>
    exact ⟨_, _, rfl, rfl, h.whenRunning (f := (·.loseSignal link mid)) (h.loseSignal link mid)⟩
  | syncRegained link => exact ⟨_, _, rfl, rfl, h.whenRunning (f := (·.regainSync link)) (h.regainSync link)⟩
  | malformedFrame frame => exact ⟨_, _, rfl, rfl, h.whenRunning (f := (·.receiveM frame)) (h.receiveM frame)⟩
  | sampleFrame frame => exact ⟨_, _, rfl, rfl, h.whenRunning (f := (·.receiveM frame)) (h.receiveM frame)⟩
  | converterStatusFrame frame => exact ⟨_, _, rfl, rfl, h.whenRunning (f := (·.receiveC frame)) (h.receiveC frame)⟩
  | linkCMalformedFrame frame => exact ⟨_, _, rfl, rfl, h.whenRunning (f := (·.receiveC frame)) (h.receiveC frame)⟩
  | cblkEdge high => exact ⟨_, _, rfl, rfl, h.edge high⟩
  | auditCompletion => exact ⟨_, _, rfl, rfl, h.whenRunning h.completeAudit⟩
  | attentionPulseEnd => exact ⟨_, _, rfl, rfl, h.whenRunning h.endPulse⟩
  | arrival sets => exact ⟨_, _, rfl, rfl, h.whenRunning (f := (·.takeNext sets)) (h.takeNext may)⟩
  | _ => cases may

/-- Settles O38: two runs side by side, alike but for the shadow at every place of the handling. -/
theorem shadowDoesNotReachProcessing : Obligations.ShadowDoesNotReachProcessing := by
  intro c s t b may idle run
  obtain ⟨u, u', left, right, apart⟩ := exec_shadowApart (b := b) (s' := s.withShadow b) ⟨rfl, idle⟩ may
  have same : u = t := by
    rw [run] at left
    injection left with same
    exact same.symm
  rw [right, apart.eq, same]

end Sys2Proof.Machine

/-! The ports: which frames they discard (R2, R100), and how the words sent are read whatever their ignored bits (R190
to R194); a request frame read joins the queue (R153, R154). -/

namespace Sys2Proof.Machine

/-! ### The required length of a request (R190) -/

theorem TableId.entryWords_pos (t : Option TableId) : 0 < (t.map TableId.entryWords).getD 1 := by
  cases t with
  | none => exact Nat.one_pos
  | some t => cases t <;> decide

/-- R190: a list part is 1 to 32 whole entries. -/
theorem writeListLength_iff (selector : Word) (m : Nat) :
    writeListLength selector m = true ↔
      ∃ n, 1 ≤ n ∧ n ≤ 32 ∧ m = n * ((TableId.ofWord selector).map TableId.entryWords).getD 1 := by
  have positive := TableId.entryWords_pos (TableId.ofWord selector)
  simp only [writeListLength, Bool.and_eq_true, beq_iff_eq, decide_eq_true_eq]
  generalize ((TableId.ofWord selector).map TableId.entryWords).getD 1 = k at positive
  constructor
  · rintro ⟨⟨whole, low⟩, high⟩
    exact ⟨m / k, low, high, (Nat.div_mul_cancel (Nat.dvd_of_mod_eq_zero whole)).symm⟩
  · rintro ⟨n, low, high, rfl⟩
    rw [Nat.mul_mod_left, Nat.mul_div_cancel n positive]
    exact ⟨⟨rfl, low⟩, high⟩

theorem paramsLength_iff (code selector : Word) (m : Nat) :
    paramsLength code selector m = true ↔
      (RequestCode.ofWord code = some .writeTable → writeListLength selector m = true)
        ∧ ∀ c, RequestCode.ofWord code = some c → c ≠ .writeTable → m = c.paramWords := by
  unfold paramsLength
  cases known : RequestCode.ofWord code with
  | none => simp
  | some c => cases c <;> simp

/-! ### The frames discarded on link M (R2) -/

/-- R2: what the port takes: a sample frame of 12 words or a request frame of its required length. -/
def AcceptedOnLinkM (ws : List Word) : Prop :=
  lengthAgrees ws = true ∧ checkAgrees ws = true
    ∧ (frameWord ws 0 = 0x0A01 ∧ ws.length = 12
      ∨ frameWord ws 0 = 0x0A02 ∧ 7 ≤ ws.length
        ∧ paramsLength (frameWord ws 3) (frameWord ws 4) (ws.length - 7) = true)

theorem judgeLinkM_ne_malformed_iff (ws : List Word) : judgeLinkM ws ≠ .malformed ↔ AcceptedOnLinkM ws := by
  have kinds : ¬ (0x0A02 : Word) = 0x0A01 := by decide
  unfold judgeLinkM AcceptedOnLinkM
  split_ifs <;> simp_all

theorem lengthAgrees_iff (ws : List Word) :
    lengthAgrees ws = true ↔ 3 ≤ ws.length ∧ (frameWord ws 1).toNat = ws.length := by
  simp [lengthAgrees]

/-- R190: the list of a WRITE_TABLE has its required length where some count of whole entries gives the frame's. -/
theorem writeListLength_frame_iff {selector : Word} {length : Nat} (long : 7 ≤ length) :
    writeListLength selector (length - 7) = true ↔
      ¬ ∀ n, 1 ≤ n → n ≤ 32 → length ≠ 7 + n * ((TableId.ofWord selector).map TableId.entryWords).getD 1 := by
  rw [writeListLength_iff]
  push Not
  refine exists_congr fun n => ⟨fun ⟨low, high, same⟩ => ⟨low, high, by omega⟩, fun ⟨low, high, same⟩ =>
    ⟨low, high, by omega⟩⟩

theorem acceptedOnLinkM_iff (ws : List Word) : AcceptedOnLinkM ws ↔ ¬ DiscardedOnLinkM ws := by
  have kinds : ¬ (0x0A02 : Word) = 0x0A01 := by decide
  constructor
  · rintro ⟨length, check, kind⟩ discarded
    obtain ⟨-, length⟩ := (lengthAgrees_iff ws).1 length
    have check : frameWord ws (ws.length - 1) = checkWord ws.dropLast := by simpa [checkAgrees] using check
    obtain other | ⟨noSample, noRequest⟩ | ⟨sample, other⟩ | ⟨request, short⟩ | ⟨request, write, never⟩
      | ⟨c, request, code, notWrite, other⟩ | other := discarded
    · exact other length
    · exact kind.elim (fun k => noSample k.1) fun k => noRequest k.1
    · exact kind.elim (fun k => other k.2) fun k => kinds (k.1.symm.trans sample)
    · exact kind.elim (fun k => kinds (request.symm.trans k.1)) fun k => absurd k.2.1 (by omega)
    · obtain ⟨-, long, params⟩ := kind.resolve_left fun k => kinds (request.symm.trans k.1)
      exact (writeListLength_frame_iff long).1 (((paramsLength_iff _ _ _).1 params).1 write) never
    · obtain ⟨-, long, params⟩ := kind.resolve_left fun k => kinds (request.symm.trans k.1)
      exact other (by have := ((paramsLength_iff _ _ _).1 params).2 c code notWrite; omega)
    · exact other check
  · intro kept
    simp only [DiscardedOnLinkM, not_or, not_not, not_and, not_exists] at kept
    obtain ⟨length, kind, sample, request, write, others, check⟩ := kept
    have kind : frameWord ws 0 = 0x0A01 ∧ ws.length = 12 ∨ frameWord ws 0 = 0x0A02 ∧ 7 ≤ ws.length := by
      by_cases k : frameWord ws 0 = 0x0A01
      · exact .inl ⟨k, sample k⟩
      · exact .inr ⟨kind k, not_lt.1 (request (kind k))⟩
    have long : 3 ≤ ws.length := by rcases kind with ⟨-, l⟩ | ⟨-, l⟩ <;> omega
    refine ⟨(lengthAgrees_iff ws).2 ⟨long, length⟩, by simpa [checkAgrees] using check, kind.imp_right fun k => ?_⟩
    refine ⟨k.1, k.2, (paramsLength_iff _ _ _).2 ⟨fun code => ?_, fun c code notWrite => ?_⟩⟩
    · exact (writeListLength_frame_iff k.2).2 (write k.1 code)
    · have := others c k.1 code notWrite
      omega

theorem judgeLinkM_eq_malformed_iff (ws : List Word) : judgeLinkM ws = .malformed ↔ DiscardedOnLinkM ws := by
  have kept := (judgeLinkM_ne_malformed_iff ws).trans (acceptedOnLinkM_iff ws)
  exact not_iff_not.1 kept

/-- R100: the port of link C discards what meets one of its conditions, and nothing else. -/
theorem judgeLinkC_isSome_iff (ws : List Word) : (judgeLinkC ws).isSome = true ↔ ¬ DiscardedOnLinkC ws := by
  have accepted : (judgeLinkC ws).isSome = true ↔
      (lengthAgrees ws && checkAgrees ws && frameWord ws 0 == 0x0C02 && ws.length == 6) = true := by
    unfold judgeLinkC; split <;> simp_all
  rw [accepted]
  simp only [Bool.and_eq_true, lengthAgrees_iff, checkAgrees, beq_iff_eq, DiscardedOnLinkC, not_or, not_not]
  constructor
  · rintro ⟨⟨⟨⟨-, length⟩, check⟩, kind⟩, six⟩
    exact ⟨length, kind, six, check⟩
  · rintro ⟨length, kind, six, check⟩
    exact ⟨⟨⟨⟨by omega, length⟩, check⟩, kind⟩, six⟩

/-! ### What a port does with a frame (R2, R100) -/

section
variable {s : State}

theorem State.receiveM_of_malformed {ws : List Word} (synced : s.linkMSynced = true)
    (bad : judgeLinkM ws = .malformed) : s.receiveM ws = s.malformedCounted := by
  rw [State.receiveM, if_pos synced, bad]
  rfl

theorem State.receiveC_of_none {ws : List Word} (synced : s.linkC.synced = true) (bad : judgeLinkC ws = none) :
    s.receiveC ws = s.malformedCounted := by
  rw [State.receiveC, if_pos synced, bad]
  rfl

theorem State.receiveM_of_request {ws : List Word} {r : Request} (synced : s.linkMSynced = true)
    (judged : judgeLinkM ws = .request r) : s.receiveM ws = s.takeRequest r := by
  rw [State.receiveM, if_pos synced, judged]

theorem State.receiveC_of_some {ws : List Word} {st : ConverterStatus} (synced : s.linkC.synced = true)
    (judged : judgeLinkC ws = some st) : s.receiveC ws = s.takeStatus st := by
  rw [State.receiveC, if_pos synced, judged]

end

/-- Settles O8: each port takes a frame exactly where none of its conditions holds, and counts any other once. -/
theorem portsDiscardFailingFrames : Obligations.PortsDiscardFailingFrames := by
  refine ⟨fun s ws => ⟨fun running synced bad => ?linkM, fun good => ?judged⟩,
    fun s ws => ⟨fun running synced => ⟨fun bad => ?linkC, ?lost⟩, fun good => (judgeLinkC_isSome_iff ws).2 good⟩⟩
  case linkM =>
    have received : s.whenRunning (fun s => s.receiveM ws) = s.malformedCounted := by
      rw [s.whenRunning_of_running _ running]
      exact State.receiveM_of_malformed synced ((judgeLinkM_eq_malformed_iff ws).2 bad)
    exact ⟨congrArg Host.Outcome.next received, congrArg Host.Outcome.next received,
      congrArg Host.Outcome.next received⟩
  case judged => exact fun same => good ((judgeLinkM_eq_malformed_iff ws).1 same)
  case linkC =>
    have none : judgeLinkC ws = none := by
      by_contra some
      exact (judgeLinkC_isSome_iff ws).1 (Option.isSome_iff_ne_none.2 some) bad
    have received : s.whenRunning (fun s => s.receiveC ws) = s.malformedCounted := by
      rw [s.whenRunning_of_running _ running]
      exact State.receiveC_of_none synced none
    exact ⟨congrArg Host.Outcome.next received, congrArg Host.Outcome.next received⟩
  case lost =>
    have lost : s.whenRunning (fun s => s.loseSignal .c true) = s.loseSignal .c true :=
      s.whenRunning_of_running _ running
    refine ⟨s.loseSignal .c true, congrArg Host.Outcome.next lost, ?_⟩
    simp only [State.loseSignal, synced, Bool.and_true, if_true, State.record_intake, State.setLinkC_intake]
    rfl

/-! ### The words read back (R190 to R194) -/

/-- R190, R193, R194: a sample frame, whatever its words; the high byte of a high word changes nothing. -/
theorem judgeLinkM_sealed_sample (ident count quality ah al bh bl ch cl : Word) :
    judgeLinkM (sealFrame 0x0A01 [ident, count, quality, ah, al, bh, bl, ch, cl]) =
      .sample
        ⟨ident, count.toNat, !bitAt 0 quality, !bitAt 1 quality, ⟨value24 ah al, value24 bh bl, value24 ch cl⟩⟩ := by
  generalize frame : sealFrame 0x0A01 [ident, count, quality, ah, al, bh, bl, ch, cl] = ws
  have passes : lengthAgrees ws && checkAgrees ws := by
    rw [Bool.and_eq_true, ← frame]
    exact ⟨lengthAgrees_sealFrame (by simp), checkAgrees_sealFrame _ _⟩
  have kind : frameWord ws 0 = 0x0A01 := by rw [← frame]; rfl
  have length : ws.length = 12 := by rw [← frame]; rfl
  rw [judgeLinkM, if_pos passes, if_pos kind, if_pos length, ← frame]
  rfl

/-- R190: a request frame of a required length, whatever its words; the other bits of the address and tag word and of
the start word change nothing. -/
theorem judgeLinkM_sealed_request (w2 code selector w5 : Word) {params : List Word} (short : params.length + 7 < 65536)
    (length : paramsLength code selector params.length = true) :
    judgeLinkM (sealFrame 0x0A02 ([w2, code, selector, w5] ++ params)) =
      .request
        { address := w2.setWidth 6, tag := (w2 >>> 8).setWidth 8, code := code, selector := selector
          start := w5.toNat % 256, params := params } := by
  have read : readRequest (sealFrame 0x0A02 ([w2, code, selector, w5] ++ params)) =
      { address := w2.setWidth 6, tag := (w2 >>> 8).setWidth 8, code := code, selector := selector
        start := w5.toNat % 256, params := params } := by
    have last (c : Word) : (params ++ [c]).dropLast = params := List.dropLast_concat
    have address : BitVec.ofNat 6 (bitField 0 6 w2) = w2.setWidth 6 :=
      BitVec.eq_of_toNat_eq (by simp [bitField])
    have tag : BitVec.ofNat 8 (bitField 8 8 w2) = (w2 >>> 8).setWidth 8 :=
      BitVec.eq_of_toNat_eq (by simp [bitField, Nat.shiftRight_eq_div_pow])
    calc readRequest (sealFrame 0x0A02 ([w2, code, selector, w5] ++ params))
        = { address := BitVec.ofNat 6 (bitField 0 6 w2), tag := BitVec.ofNat 8 (bitField 8 8 w2), code := code
            selector := selector, start := bitField 0 8 w5, params := (params ++ [_]).dropLast } := rfl
      _ = _ := by rw [last, address, tag]; simp [bitField]
  have total : (sealFrame 0x0A02 ([w2, code, selector, w5] ++ params)).length = params.length + 7 := by
    simp
  have kind : frameWord (sealFrame 0x0A02 ([w2, code, selector, w5] ++ params)) 0 = 0x0A02 := rfl
  have codeWord : frameWord (sealFrame 0x0A02 ([w2, code, selector, w5] ++ params)) 3 = code := rfl
  have selectorWord : frameWord (sealFrame 0x0A02 ([w2, code, selector, w5] ++ params)) 4 = selector := rfl
  have passes : lengthAgrees (sealFrame 0x0A02 ([w2, code, selector, w5] ++ params))
      && checkAgrees (sealFrame 0x0A02 ([w2, code, selector, w5] ++ params)) := by
    rw [Bool.and_eq_true]
    exact ⟨lengthAgrees_sealFrame (by simp; omega), checkAgrees_sealFrame _ _⟩
  have fits : (decide (7 ≤ params.length + 7) && paramsLength code selector (params.length + 7 - 7)) = true := by
    rw [Nat.add_sub_cancel, length]
    simp
  rw [judgeLinkM, if_pos passes, kind, if_neg (by decide), if_pos rfl, codeWord, selectorWord, total, if_pos fits, read]

/-- R190: what the station sends is read as it was meant. -/
theorem judgeLinkM_requestFrame {r : Request} (h : r.Sendable) : judgeLinkM r.frame = .request r := by
  obtain ⟨start, short, length⟩ := h
  have address := r.address.isLt
  have tag := r.tag.isLt
  have packed : (wordOf (r.address.toNat + r.tag.toNat * 256)).toNat = r.address.toNat + r.tag.toNat * 256 :=
    wordOf_toNat (by omega)
  have low : (wordOf (r.address.toNat + r.tag.toNat * 256)).setWidth 6 = r.address :=
    BitVec.eq_of_toNat_eq (by rw [BitVec.toNat_setWidth, packed]; omega)
  have high : ((wordOf (r.address.toNat + r.tag.toNat * 256)) >>> 8).setWidth 8 = r.tag :=
    BitVec.eq_of_toNat_eq (by
      rw [BitVec.toNat_setWidth, BitVec.toNat_ushiftRight, packed, Nat.shiftRight_eq_div_pow]
      omega)
  have startWord : (wordOf r.start).toNat % 256 = r.start := by
    rw [wordOf_toNat (by omega)]
    exact Nat.mod_eq_of_lt start
  rw [Request.frame, judgeLinkM_sealed_request _ _ _ _ short length, low, high, startWord]

/-- R191: a converter status frame, whatever its words. -/
theorem judgeLinkC_sealed (w2 w3 w4 : Word) :
    judgeLinkC (sealFrame 0x0C02 [w2, w3, w4]) =
      some ⟨min 32767 w2.toNat, bitAt 0 w3, bitAt 1 w3, w4.toNat % 256⟩ := by
  generalize frame : sealFrame 0x0C02 [w2, w3, w4] = ws
  have passes : (lengthAgrees ws && checkAgrees ws && frameWord ws 0 == 0x0C02 && ws.length == 6) = true := by
    have length : lengthAgrees ws = true := frame ▸ lengthAgrees_sealFrame (by simp)
    have check : checkAgrees ws = true := frame ▸ checkAgrees_sealFrame _ _
    have kind : frameWord ws 0 = 0x0C02 := by rw [← frame]; rfl
    have six : ws.length = 6 := by rw [← frame]; rfl
    simp [length, check, kind, six]
  rw [judgeLinkC, if_pos passes, ← frame]
  simp [bitField, sealFrame, frameWord]

theorem judgeLinkC_statusFrame {st : ConverterStatus} (h : st.Sendable) : judgeLinkC st.frame = some st := by
  obtain ⟨capability, fault⟩ := h
  rw [ConverterStatus.frame, judgeLinkC_sealed, bitAt_zero_quality, bitAt_one_quality, wordOf_toNat (by omega),
    wordOf_toNat (by omega), Nat.min_eq_right capability, Nat.mod_eq_of_lt (by omega)]

/-! ### The check word's register (R192) -/

/-- R192: the register after the first bits of a word, bit 15 first. -/
def registerAfter (r w : Word) : Nat → Word
  | 0 => r
  | n + 1 => crcBit (registerAfter r w n) (bitAt (15 - n) w)

theorem registerAfter_sixteen (r w : Word) : registerAfter r w 16 = crcWord r w := rfl

theorem checkWord_concat (ws : List Word) (w : Word) : checkWord (ws ++ [w]) = crcWord (checkWord ws) w := by
  simp [checkWord]

/-- Settles O9: the frames sent are sealed frames, and a sealed frame is read from its words. -/
theorem portsReadTheFramesSent : Obligations.PortsReadTheFramesSent := by
  refine ⟨fun _ => judgeLinkM_sampleFrame, fun _ => judgeLinkM_requestFrame, fun _ => judgeLinkC_statusFrame, ?sample,
    fun w2 code selector w5 _ => judgeLinkM_sealed_request w2 code selector w5, judgeLinkC_sealed, rfl,
    fun ws w => ⟨registerAfter (checkWord ws) w, rfl, ?_, fun n _ => ?_⟩⟩
  case sample =>
    intro ident count quality ah al bh bl ch cl raw
    have read (h l : Word) : value24 h l = raw h l := by
      have byte : bitField 0 8 h = h.toNat % 256 := by simp [bitField]
      simp only [value24, byte, raw]
    rw [judgeLinkM_sealed_sample, read, read, read]
  · rw [registerAfter_sixteen, checkWord_concat]
  · simp [registerAfter, crcBit]

/-! ### A request frame joins the queue (R153, R154) -/

/-- Settles O45: a request frame read is for this part, for every part or for another. -/
theorem requestFrameJoinsTheQueue : Obligations.RequestFrameJoinsTheQueue := by
  intro s r running synced sendable
  have received : exec (.requestFrame r.frame) s = .next (s.takeRequest r) :=
    congrArg Host.Outcome.next <| (s.whenRunning_of_running _ running).trans
      (State.receiveM_of_request synced (judgeLinkM_requestFrame sendable))
  rw [received, State.takeRequest]
  simp only [Request.broadcast_iff, Engine.offerRequest]
  split_ifs <;> rfl

end Sys2Proof.Machine

/-! The step, the link events and the requests that set the part or begin an operation: SET_THRESHOLD,
SET_ATTENTION_MODE, CLONE, COMMIT_SWAP and RESET_CONTROLLER, with the completions of the last three. -/

namespace Sys2Proof.Machine

/-- Settles O1: both sides are the same state by the definition of `step`. -/
theorem stepTakesTheFrontCommand : Obligations.StepTakesTheFrontCommand := by
  refine ⟨fun c rest s => rfl, fun s idle => ?_⟩
  rw [step, idle]

/-- Settles O7: loss and regaining each set the receiver's flag and record one LINK event. -/
theorem linkEventsAreRecorded : Obligations.LinkEventsAreRecorded := by
  refine fun s mid running => ⟨congrArg Host.Outcome.next ?lossM, congrArg Host.Outcome.next ?lossC,
    fun lost => congrArg Host.Outcome.next ?regainM, fun lost => congrArg Host.Outcome.next ?regainC⟩
  case lossM => rw [State.whenRunning_of_running _ running, State.loseSignal, State.record_eq_recorded]; rfl
  case lossC =>
    rw [State.whenRunning_of_running _ running, State.loseSignal, State.record_eq_recorded]
    cases mid && s.linkC.synced <;> rfl
  case regainM =>
    rw [State.whenRunning_of_running _ running, State.regainSync, State.record_eq_recorded, if_neg (by simp [lost])]
  case regainC =>
    rw [State.whenRunning_of_running _ running, State.regainSync, State.record_eq_recorded, if_neg (by simp [lost])]
    rfl

section
variable {s : State} {r : Request} {rest : List Request}

/-- R159: in OPEN and UNLOCKED the gate lets through all but the requests that name a missing code. -/
theorem gate_of_writable {p : Protection} {c : RequestCode}
    (codeless : c ∉ [RequestCode.clearCode, .unlock, .lock]) (writable : p = .opened ∨ p = .unlocked) :
    gate p c = none := by
  obtain rfl | rfl := writable
  · revert codeless
    cases c <;> decide
  · exact gate_unlocked c

/-- R121, R122, R171: a request that goes on begins its operation and stays at the head. -/
theorem State.serve_of_goesOn {c : RequestCode} {handle : State → Request → Handled} {op : Operation}
    (head : AtHead s c r rest) (through : gate s.engine.protection c = none)
    (alone : r.address ≠ 63 ∨ c.servedBroadcast = true) (handled : handle s r = s.goesOn op) :
    s.serve c handle = { s with engine := { s.engine with operation := some op } } := by
  rw [State.serve_of_atHead _ head, State.serveRequest_of_gate _ through alone, handled]
  rfl

/-! ### SET_THRESHOLD (R188) -/

theorem Vector.set_pred_eq_ofFn (v : Vector Nat 5) {a : Nat} (n : Nat) (legal : 1 ≤ a ∧ a ≤ 5) :
    v.set (a - 1) n (by omega) = Vector.ofFn fun i : Fin 5 => if i.val + 1 = a then n else v[i] := by
  ext i inside
  rw [Vector.getElem_set, Vector.getElem_ofFn]
  have place : a - 1 = i ↔ i + 1 = a := by omega
  exact ite_congr (propext place) (fun _ => rfl) fun _ => rfl

/-- The health block with new thresholds has HEALTH_LOW as the thresholds and the values say. -/
theorem Health.evaluate_threshold (h : Health) (v : Vector Nat 5) :
    Health.evaluate { h with threshold := v } =
      { h with threshold := v, low := decide (∃ i : Fin 5, v[i] ≠ 0 ∧ h.value[i] ≤ v[i]) } := by
  have low : Health.isLow { h with threshold := v } = decide (∃ i : Fin 5, v[i] ≠ 0 ∧ h.value[i] ≤ v[i]) := by
    rw [Bool.eq_iff_iff, Health.isLow_iff, decide_eq_true_iff]
  rw [Health.evaluate, low]

theorem handleSetThreshold_of_legal (legal : 1 ≤ r.param 0 ∧ r.param 0 ≤ 5 ∧ r.param 1 ≤ 253) :
    let thresholds : Vector Nat 5 :=
      Vector.ofFn fun i : Fin 5 => if i.val + 1 = r.param 0 then r.param 1 else s.health.threshold[i]
    let low := decide (∃ i : Fin 5, thresholds[i] ≠ 0 ∧ s.health.value[i] ≤ thresholds[i])
    handleSetThreshold s r =
      (State.noteChange { s with health := { s.health with threshold := thresholds, low := low } } .healthLow
        s.health.low low).handled ⟨.ok, 0, 0, thresholds.toList.map wordOf⟩ := by
  simp only [handleSetThreshold]
  rw [dif_pos legal, Vector.set_pred_eq_ofFn _ _ ⟨legal.1, legal.2.1⟩, Health.evaluate_threshold,
    State.offerChanges_single]
  rfl

theorem handleSetThreshold_of_illegal (illegal : ¬ (1 ≤ r.param 0 ∧ r.param 0 ≤ 5 ∧ r.param 1 ≤ 253)) :
    handleSetThreshold s r = s.handled ⟨.badValue, 0, 0, s.health.threshold.toList.map wordOf⟩ := by
  simp only [handleSetThreshold]
  rw [dif_neg illegal]
  rfl

/-! ### SET_ATTENTION_MODE (R179, R180) -/

/-- R180: the reply names the mode in force after the request. -/
theorem AttentionMode.wordOf_code (m : AttentionMode) : wordOf m.code = if m = .latched then 0 else 1 := by
  cases m <;> rfl

theorem handleSetAttentionMode_of_illegal (illegal : 1 < r.param 0) :
    handleSetAttentionMode s r =
      s.handled ⟨.badValue, 0, 0, [if s.engine.attention = .latched then 0 else 1]⟩ := by
  have unnamed : attentionOf (r.param 0) = none := by
    obtain ⟨n, named⟩ := Nat.exists_eq_add_of_lt illegal
    rw [named, show 1 + n + 1 = n + 2 by omega]
    rfl
  rw [handleSetAttentionMode, unnamed, ← AttentionMode.wordOf_code]
  rfl

theorem handleSetAttentionMode_of_mode {m : AttentionMode} (named : attentionOf (r.param 0) = some m) :
    handleSetAttentionMode s r =
      if m = s.engine.attention then s.handled ⟨.ok, 0, 0, [wordOf m.code]⟩
      else
        State.handled { s with engine := { s.engine with attention := m }, events := s.events.changeMode m }
          ⟨.ok, 0, 0, [wordOf m.code]⟩ := by
  rw [handleSetAttentionMode, named]
  rfl

theorem EventUnit.changeMode_latched (e : EventUnit) :
    e.changeMode .latched = { e with line := decide (e.queue ≠ []), pulse := none } := by
  obtain ⟨queue, overflow, line, pulse⟩ := e
  cases queue <;> rfl

/-! ### The completions of CLONE and COMMIT_SWAP (R121 to R123) -/

theorem commitResult_of_other {b : Bank} {n : Nat} (other : b.digest.toNat ≠ n) :
    commitResult b n = (⟨.digest, 0, 0, [b.digest]⟩, none) := by
  rw [commitResult, if_neg other]
  rfl

theorem commitResult_of_conflict {b : Bank} {n k : Nat} {t : TableId} (same : b.digest.toNat = n)
    (conflict : b.conflict = some (t, k)) : commitResult b n = (⟨.conflict, k, 0, [wordOf t.code]⟩, none) := by
  rw [commitResult, if_pos same, conflict]

theorem commitResult_of_valid {b : Bank} {n : Nat} (same : b.digest.toNat = n) (valid : b.conflict = none) :
    commitResult b n = (⟨.ok, 0, 0, [b.digest]⟩, some b.digest) := by
  rw [commitResult, if_pos same, valid]
  rfl

/-- R122: where the shadow is refused no swap becomes pending. -/
theorem finishCommit_of_refused {p : Reply} (queue : s.engine.queue = r :: rest) (idle : s.store.pendingSwap = none)
    (result : commitResult s.store.shadowBank (r.param 0) = (p, none)) : finishCommit s r = s.ended r rest p := by
  have kept : s.setStore { s.store with pendingSwap := none } = s := by
    rw [← idle]
    rfl
  rw [finishCommit, result]
  simp only [kept]
  exact State.answer_eq_ended p queue

/-- R123, R126: a valid shadow's swap becomes pending, and in an UNSYNCED ring completes at once. -/
theorem finishCommit_of_valid {p : Reply} {d : Word} (queue : s.engine.queue = r :: rest)
    (result : commitResult s.store.shadowBank (r.param 0) = (p, some d)) :
    finishCommit s r =
      if s.ring.synced then State.ended { s with store := { s.store with pendingSwap := some d } } r rest p
      else (State.ended { s with store := { s.store with pendingSwap := some d } } r rest p).swapAtOnce d := by
  have answered : (s.setStore { s.store with pendingSwap := some d }).answer r p =
      State.ended { s with store := { s.store with pendingSwap := some d } } r rest p :=
    State.answer_eq_ended (s := s.setStore _) p queue
  rw [finishCommit, result, ← answered]

end

/-- Settles O53: a legal request sets one threshold and evaluates HEALTH_LOW, any other is answered only. -/
theorem setThresholdEvaluatesHealthLow : Obligations.SetThresholdEvaluatesHealthLow := by
  intro s r rest head writable single
  have through := gate_of_writable (c := .setThreshold) (by decide) writable
  refine ⟨fun legal => congrArg Host.Outcome.next ?set, fun illegal => congrArg Host.Outcome.next ?refused⟩
  case set =>
    refine (State.serve_of_gate head through rfl (handleSetThreshold_of_legal legal) ?_).trans (if_neg single)
    rw [State.noteChange_engine]
  case refused =>
    exact (State.serve_of_gate head through rfl (handleSetThreshold_of_illegal illegal) rfl).trans (if_neg single)

/-- Settles O56: by the mode the request names against the mode in force. -/
theorem attentionModeAndPulse : Obligations.AttentionModeAndPulse := by
  intro s r rest
  refine ⟨fun head writable single => ?mode, fun running pulsed pulse => congrArg Host.Outcome.next ?pulse⟩
  case pulse => rw [State.whenRunning_of_running _ running, State.endPulse, if_pos ⟨pulsed, pulse⟩]; rfl
  case mode =>
    have through := gate_of_writable (c := .setAttentionMode) (by decide) writable
    have answers {t : State} {p : Reply} (handled : handleSetAttentionMode s r = t.handled p)
        (queue : t.engine.queue = s.engine.queue) : exec .setAttentionMode s = .next (t.ended r rest p) :=
      congrArg Host.Outcome.next ((State.serve_of_gate head through rfl handled queue).trans (if_neg single))
    have latched (zero : r.param 0 = 0) : attentionOf (r.param 0) = some .latched := by rw [zero]; rfl
    have pulsed (one : r.param 0 = 1) : attentionOf (r.param 0) = some .pulsed := by rw [one]; rfl
    refine ⟨fun zero mode => answers ?_ rfl, fun one mode => answers ?_ rfl, fun zero mode => answers ?_ rfl,
      fun one mode => answers ?_ rfl, fun illegal => answers (handleSetAttentionMode_of_illegal illegal) rfl⟩
    · rw [handleSetAttentionMode_of_mode (latched zero), if_neg (by simp [mode]), EventUnit.changeMode_latched]
      rfl
    · rw [handleSetAttentionMode_of_mode (pulsed one), if_neg (by simp [mode])]
      rfl
    · rw [handleSetAttentionMode_of_mode (latched zero), if_pos mode.symm]
      rfl
    · rw [handleSetAttentionMode_of_mode (pulsed one), if_pos mode.symm]
      rfl

/-- Settles O32: a pending swap refuses CLONE; its completion copies the active bank before it answers. -/
theorem cloneCopiesTheActiveBank : Obligations.CloneCopiesTheActiveBank := by
  intro s r rest
  refine ⟨fun head writable => ⟨fun pending => congrArg Host.Outcome.next ?pending,
    fun idle => congrArg Host.Outcome.next ?begins⟩,
    fun service => ⟨?shadow, ?active, congrArg Host.Outcome.next ?done⟩⟩
  case pending =>
    refine State.serve_of_servedBroadcast head rfl writable ?_ rfl
    rw [handleClone, if_pos pending]
    rfl
  case begins =>
    refine State.serve_of_goesOn head (gate_of_servedBroadcast rfl writable) (.inr rfl) ?_
    rw [handleClone, if_neg (by simp [idle])]
  case shadow => exact TableStore.shadowBank_setShadow _ _
  case active => exact TableStore.activeBank_setShadow _ _
  case done =>
    rw [State.complete_of_inService _ service]
    exact State.answer_eq_ended (s := s.setStore (s.store.setShadow s.store.activeBank)) _ service.queue

/-- Settles O33: the completion answers by the digest, the validation and the ring. -/
theorem commitMakesASwapPending : Obligations.CommitMakesASwapPending := by
  intro s r rest
  refine ⟨fun head writable => ⟨fun pending => congrArg Host.Outcome.next ?pending,
    fun idle => congrArg Host.Outcome.next ?begins⟩, fun service idle => ?completion⟩
  case pending =>
    refine State.serve_of_servedBroadcast head rfl writable ?_ rfl
    rw [handleCommitSwap, if_pos pending]
    rfl
  case begins =>
    refine State.serve_of_goesOn head (gate_of_servedBroadcast rfl writable) (.inr rfl) ?_
    rw [handleCommitSwap, if_neg (by simp [idle])]
  case completion =>
    have completes {t : State} (finish : finishCommit s r = t) : exec .commitCompletion s = .next t :=
      congrArg Host.Outcome.next ((State.complete_of_inService _ service).trans finish)
    refine ⟨fun other => completes ?_, fun table k same conflict => completes ?_,
      fun same valid synced => completes ?_, fun same valid unsynced => completes ?_⟩
    · exact finishCommit_of_refused service.queue idle (commitResult_of_other other)
    · exact finishCommit_of_refused service.queue idle (commitResult_of_conflict same conflict)
    · exact (finishCommit_of_valid service.queue (commitResult_of_valid same valid)).trans (if_pos synced)
    · exact (finishCommit_of_valid service.queue (commitResult_of_valid same valid)).trans
        (if_neg (by simp [unsynced]))

/-- Settles O5: the request begins the operation, whose completion gives every block its soft reset state, records it
and answers. -/
theorem softResetKeepsWhatItNames : Obligations.SoftResetKeepsWhatItNames := by
  intro s r rest
  refine ⟨fun head writable => congrArg Host.Outcome.next ?begins, fun service => congrArg Host.Outcome.next ?done⟩
  case begins =>
    have through := gate_of_writable (c := .resetController) (by decide) writable
    split
    next broadcast => exact State.serve_of_broadcast _ head broadcast rfl
    next single => exact State.serve_of_goesOn head through (.inl single) rfl
  case done =>
    rw [State.complete_of_inService _ service, finishSoftReset, State.recordReset, State.offer_eq]
    exact State.answer_eq_ended (s := State.setEvents _ _ _) _ service.queue

end Sys2Proof.Machine

/-! The resets: the supply, RESET_N and the self-test (R132, R168, R170), and the invariants of the state they end in.
-/

namespace Sys2Proof.Machine

section
variable {s : State}

/-! ### The parts of a reset -/

theorem TableStore.initialised_activeBank : TableStore.initialised.activeBank = Bank.factory := rfl

/-- The clearing at a hold keeps the banks and their roles. -/
@[simp] theorem TableStore.clearOperations_activeBank (t : TableStore) :
    t.clearOperations.activeBank = t.activeBank := rfl

@[simp] theorem TableStore.clearOperations_recorded (t : TableStore) : t.clearOperations.recorded = t.recorded := rfl

/-- The end of a self-test: the blocks start from the active bank and the RESET record enters the queue. -/
theorem State.endReset_eq (kind : ResetKind) (result : SelfTestResult) :
    s.endReset kind result =
      { s with
        phase := .running
        intake := Intake.afterReset s.bank
        transform := Transform.afterReset s.bank
        linkC := LinkC.afterReset s.bank s.pins.cblk false
        events := s.events.take s.engine.attention ⟨.reset kind result, 0, none⟩ } := by
  rw [State.endReset, State.recordReset, State.offer_eq]
  rfl

/-- A part that waits for nothing more: RESET_N high at the end of a power-on's self-test. -/
theorem State.powerOnTest_of_high (high : s.pins.resetN = true) :
    s.powerOnTest = (s.setStore TableStore.initialised).endReset .powerOn .pass := by
  rw [State.powerOnTest]
  exact if_pos high

theorem State.powerOnTest_of_low (low : s.pins.resetN = false) :
    s.powerOnTest = { s with store := TableStore.initialised, phase := .awaitingLine } := by
  rw [State.powerOnTest]
  generalize TableStore.initialised = initial
  exact if_neg (by simp [low])

/-! ### The WRITE_TABLE a reset cuts short (R132) -/

theorem TableStore.setShadow_self (t : TableStore) : t.setShadow t.shadowBank = t := by
  obtain ⟨b0, b1, active, recorded, pendingSwap, auditInFlight, auditCounter, tableFault⟩ := t
  rw [TableStore.setShadow, TableStore.shadowBank, TableStore.shadowNumber]
  split
  next zero => rfl
  next other => rfl

/-- R118: with no swap pending a list for a known table is written to the shadow. -/
theorem handleList_of_table (part : List (List Word) → List (List Word)) {r : Request} {t : TableId}
    (idle : s.store.pendingSwap = none) (names : TableId.ofWord r.selector = some t) :
    (handleList part s r).state.store =
      s.store.setShadow
        (writeEntries t r.start s.store.shadowBank (part (splitEntries t.entryWords r.params))).bank := by
  rw [handleList, idle, names]
  rfl

theorem handleList_of_refused (part : List (List Word) → List (List Word)) {r : Request}
    (refused : s.store.pendingSwap.isSome = true ∨ TableId.ofWord r.selector = none) :
    ∃ p, handleList part s r = s.handled p := by
  rw [handleList]
  split
  next => exact ⟨_, rfl⟩
  next idle =>
    rw [refused.resolve_left idle]
    exact ⟨_, rfl⟩

theorem Handled.close_store (h : Handled) (r : Request) : (h.close r).store = h.state.store := by
  rw [Handled.close]
  split
  next => 
    rw [State.answer]
    split <;> rfl
  next => rfl

section
variable (written : Nat)

theorem State.cutWrite_of_write {r : Request} {rest : List Request} {t : TableId} (head : AtHead s .writeTable r rest)
    (writable : s.engine.protection = .opened ∨ s.engine.protection = .unlocked)
    (idle : s.store.pendingSwap = none) (names : TableId.ofWord r.selector = some t) :
    s.cutWrite written =
      { s with
        store := s.store.setShadow
          (writeEntries t r.start s.store.shadowBank ((splitEntries t.entryWords r.params).take written)).bank } := by
  have store : (s.serve .writeTable (handleList (List.take written))).store = s.store.setShadow
      (writeEntries t r.start s.store.shadowBank ((splitEntries t.entryWords r.params).take written)).bank := by
    rw [State.serve_of_atHead _ head,
      State.serveRequest_of_gate _ (gate_of_servedBroadcast rfl writable) (.inr rfl), Handled.close_store]
    exact handleList_of_table _ idle names
  rw [State.cutWrite, store]
  rfl

/-- With no write that could reach the shadow at the head, the reset cuts nothing short. -/
theorem State.cutWrite_of_refused
    (refused : ∀ r rest, AtHead s .writeTable r rest → s.engine.protection = .locked ∨ s.engine.protection = .frozen
      ∨ s.store.pendingSwap.isSome = true ∨ TableId.ofWord r.selector = none) :
    s.cutWrite written = s := by
  apply State.cutWrite_of_store
  obtain idle | ⟨r, rest, head, served⟩ := State.serve_cases s .writeTable (handleList (List.take written))
  · rw [idle]
  rw [served]
  obtain ⟨_, _, dropped⟩ | ⟨o, _, answered⟩ | ⟨through, handled⟩ :=
    State.serveRequest_cases s .writeTable (handleList (List.take written)) r
  · rw [dropped]
    rfl
  · rw [answered, State.answer_eq_ended _ head.queue]
    rfl
  · have unwritten : s.store.pendingSwap.isSome = true ∨ TableId.ofWord r.selector = none := by
      obtain locked | frozen | unwritten := refused r rest head
      · rw [locked] at through
        exact absurd through (by decide)
      · rw [frozen] at through
        exact absurd through (by decide)
      · exact unwritten
    obtain ⟨p, kept⟩ := handleList_of_refused (List.take written) unwritten
    rw [handled, Handled.close_store, kept]
    rfl

variable (s) in
/-- Either a WRITE_TABLE that writes is at the head, or none that could reach the shadow. -/
theorem State.writes_or_refused :
    (∃ r rest t, AtHead s .writeTable r rest ∧ (s.engine.protection = .opened ∨ s.engine.protection = .unlocked)
        ∧ s.store.pendingSwap = none ∧ TableId.ofWord r.selector = some t)
      ∨ ∀ r rest, AtHead s .writeTable r rest → s.engine.protection = .locked ∨ s.engine.protection = .frozen
          ∨ s.store.pendingSwap.isSome = true ∨ TableId.ofWord r.selector = none := by
  refine or_iff_not_imp_right.2 fun through => ?_
  simp only [not_forall, not_or] at through
  obtain ⟨r, rest, head, unlocked, unfrozen, idle, named⟩ := through
  obtain ⟨t, names⟩ := Option.ne_none_iff_exists'.1 named
  refine ⟨r, rest, t, head, ?_, by simpa using idle, names⟩
  cases gate : s.engine.protection with
  | opened => exact .inl rfl
  | unlocked => exact .inr rfl
  | locked => exact absurd gate unlocked
  | frozen => exact absurd gate unfrozen

/-- All a cut short write can do: it writes the shadow. -/
theorem State.cutWrite_shadow : ∃ b, s.cutWrite written = { s with store := s.store.setShadow b } := by
  obtain ⟨r, rest, t, head, writable, idle, names⟩ | refused := s.writes_or_refused
  · exact ⟨_, State.cutWrite_of_write written head writable idle names⟩
  · refine ⟨s.store.shadowBank, ?_⟩
    rw [TableStore.setShadow_self]
    exact State.cutWrite_of_refused written refused

/-- Where no entry was handled the shadow is as it was. -/
theorem State.cutWrite_zero : s.cutWrite 0 = s := by
  obtain ⟨r, rest, t, head, writable, idle, names⟩ | refused := s.writes_or_refused
  · rw [State.cutWrite_of_write 0 head writable idle names, List.take_zero, writeEntries, TableStore.setShadow_self]
  · exact State.cutWrite_of_refused 0 refused

end

/-- R132: the active bank and the recorded digest outlast the write a reset cuts short. -/
theorem State.cutWrite_activeBank_recorded (written : Nat) :
    (s.cutWrite written).store.activeBank = s.store.activeBank
      ∧ (s.cutWrite written).store.recorded = s.store.recorded := by
  obtain ⟨b, cut⟩ := State.cutWrite_shadow (s := s) written
  rw [cut]
  exact ⟨TableStore.activeBank_setShadow _ _, TableStore.setShadow_recorded _ _⟩

/-! ### A hard reset (R132, R168, R170) -/

/-- From a running part and from a hard reset under way, RESET_N driven low cuts off what is going on and holds. -/
theorem State.driveReset_of_hard (phase : s.phase = .running ∨ s.phase = .heldHard ∨ s.phase = .testingHard) :
    s.driveReset = (s.cutOff.setResetN false).hold .heldHard := by
  obtain running | held | testing := phase
  · rw [State.driveReset, running]
  · rw [State.driveReset, held]
  · rw [State.driveReset, testing]

end

/-- Settles O3: the supply's hold starts the self-test, whose end initialises the table store and starts the blocks. -/
theorem powerOnLeadsToTheResetState : Obligations.PowerOnLeadsToTheResetState := by
  intro s straps high
  refine ⟨s.supplyStart, s.supplyStart.startSelfTest .testingPowerOn straps, rfl, rfl, rfl, rfl, rfl, rfl, rfl, rfl,
    rfl, rfl, rfl, congrArg Host.Outcome.next ?_⟩
  have tested : (s.supplyStart.startSelfTest .testingPowerOn straps).endSelfTest =
      (s.supplyStart.startSelfTest .testingPowerOn straps).powerOnTest := rfl
  rw [tested, State.powerOnTest_of_high (s := s.supplyStart.startSelfTest .testingPowerOn straps) high,
    State.endReset_eq]
  rfl

/-- Settles O4: the hold keeps the table store but for the write it cuts short, and the self-test compares the active
bank's digest with the recorded one. -/
theorem hardResetChecksTheActiveBank : Obligations.HardResetChecksTheActiveBank := by
  refine ⟨fun s straps phase => ?reset, fun s written => ⟨fun r rest t head writable idle names =>
    State.cutWrite_of_write written head writable idle names, State.cutWrite_of_refused written,
    State.cutWrite_zero⟩, fun n fs => ⟨cutFrames_flatten n fs, cutFrames_cases n fs⟩⟩
  case reset =>
    intro mOut cOut
    let held := (s.cutOff.setResetN false).hold .heldHard
    let testing := (held.setResetN true).startSelfTest .testingHard straps
    refine ⟨held, testing, congrArg Host.Outcome.next (State.driveReset_of_hard phase), rfl, rfl, rfl, rfl, rfl, rfl,
      rfl, rfl, congrArg Host.Outcome.next ?_⟩
    obtain ⟨active, recorded⟩ := State.cutWrite_activeBank_recorded (s := s) (Config.entriesHandled s.picks)
    have bank : testing.bank = s.bank := active
    have digest : testing.store.recorded = s.store.recorded := recorded
    have tested : testing.endSelfTest = testing.hardTest := rfl
    rw [tested, State.hardTest, bank, digest]
    split
    next agrees =>
      rw [State.endReset_eq, bank]
      rfl
    next differs =>
      rw [State.endReset_eq]
      rfl

/-- Settles O6: a running part is what every other command asks for; then the power-on that RESET_N low outlasts. -/
theorem heldPartTakesNothing : Obligations.HeldPartTakesNothing := by
  refine ⟨fun c s held supply line hold test edge => ?nothing,
    fun s straps => ⟨fun phase => ?low, fun testing low => ?test, fun awaiting => ?high⟩⟩
  case nothing =>
    have idle (f : State → State) : Host.Outcome.next (s.whenRunning f) = (.next s : Result) :=
      congrArg Host.Outcome.next (State.whenRunning_of_not f held)
    cases c with
    | powerOn => exact absurd rfl supply
    | hardReset => exact absurd rfl line
    | resetHoldEnd cause straps => exact absurd rfl (hold cause straps)
    | selfTest => exact absurd rfl test
    | cblkEdge high => exact absurd rfl (edge high)
    | _ => exact idle _
  case low =>
    have driven : s.driveReset = s.setResetN false := by
      obtain held | testing | awaiting := phase
      · rw [State.driveReset, held]
      · rw [State.driveReset, testing]
      · rw [State.driveReset, awaiting]
    exact congrArg Host.Outcome.next driven
  case test =>
    have tested : s.endSelfTest = s.powerOnTest := by rw [State.endSelfTest, testing]
    exact congrArg Host.Outcome.next (tested.trans (State.powerOnTest_of_low low))
  case high =>
    have released : s.resetReleased straps = (s.setResetN true).endReset .powerOn .pass := by
      rw [State.resetReleased, awaiting]
    exact congrArg Host.Outcome.next (released.trans (State.endReset_eq _ _))

/-! ### The state the resets end in -/

/-- Settles O60: each block of `State.reset` is at its reset value. -/
theorem resetMeetsTheInvariants : Obligations.ResetMeetsTheInvariants := by
  have ring : State.reset.RingInv := (State.ringInv_iff _).2 (ringAt_of_reset (w := []) rfl nofun fun _ => rfl)
  have windows : State.reset.WindowInv := State.windowInv_of (Transform.afterReset_ok Bank.factory) fun _ => rfl
  have output : State.reset.OutputInv :=
    (State.outputInv_iff _).2 (outputAt_of_reset Bank.factory false rfl rfl rfl)
  have counts : State.reset.CycleCountsInv := ⟨Health.afterReset_ok, by decide, by decide, by decide⟩
  have engine : State.reset.EngineInv := by decide
  have events : State.reset.EventInv := ⟨by decide, fun _ => ⟨rfl, rfl⟩, nofun⟩
  exact ⟨intakeInv_of_reset rfl, ring, nofun, (State.trackerInv_iff _).2 (trackerAt_of_reset rfl), windows, output,
    counts, engine, events⟩

end Sys2Proof.Machine

/-! The words a bank stores: the fields of a word, the stored form of an entry (R118, R195) and the digest (R115). -/

namespace Sys2Proof.Machine

section
variable {lo len v : Nat} {w : Word}

/-! ### The bits of a field -/

theorem bitAt_eq_testBit (n : Nat) (w : Word) : bitAt n w = w.toNat.testBit n := by
  rw [Nat.testBit_eq_decide_div_mod_eq]
  rfl

theorem bitField_testBit (lo len : Nat) (w : Word) (n : Nat) :
    (bitField lo len w).testBit n = (decide (n < len) && w.toNat.testBit (n + lo)) := by
  rw [bitField, Nat.testBit_mod_two_pow, Nat.testBit_div_two_pow]

theorem bitField_le (lo len : Nat) (w : Word) : bitField lo len w * 2 ^ lo ≤ w.toNat :=
  (Nat.mul_le_mul_right _ (Nat.mod_le _ _)).trans (Nat.div_mul_le_self _ _)

/-- A word with a field replaced, as the bits above the field, the field and the bits below it. -/
theorem replaced_eq (lo len v : Nat) (w : Word) :
    w.toNat - bitField lo len w * 2 ^ lo + v * 2 ^ lo =
      2 ^ lo * (2 ^ len * (w.toNat / 2 ^ lo / 2 ^ len) + v) + w.toNat % 2 ^ lo := by
  have split : 2 ^ lo * (w.toNat / 2 ^ lo) + w.toNat % 2 ^ lo = w.toNat := Nat.div_add_mod _ _
  have field : 2 ^ len * (w.toNat / 2 ^ lo / 2 ^ len) + bitField lo len w = w.toNat / 2 ^ lo := Nat.div_add_mod _ _
  have whole : 2 ^ lo * (2 ^ len * (w.toNat / 2 ^ lo / 2 ^ len)) + bitField lo len w * 2 ^ lo + w.toNat % 2 ^ lo =
      w.toNat := by
    rw [Nat.mul_comm _ (2 ^ lo), ← Nat.mul_add, field, split]
  rw [Nat.mul_add, Nat.mul_comm v]
  omega

/-- R195: a field put into a word changes the bits of the field only. -/
theorem putField_testBit (inside : lo + len ≤ 16) (small : v < 2 ^ len) (n : Nat) :
    (putField lo len v w).toNat.testBit n =
      if lo ≤ n ∧ n < lo + len then v.testBit (n - lo) else w.toNat.testBit n := by
  have low : w.toNat % 2 ^ lo < 2 ^ lo := Nat.mod_lt _ (Nat.two_pow_pos lo)
  rw [putField, replaced_eq, BitVec.toNat_ofNat, Nat.testBit_mod_two_pow, Nat.testBit_two_pow_mul_add _ low,
    Nat.testBit_two_pow_mul_add _ small, Nat.testBit_mod_two_pow, Nat.testBit_div_two_pow, Nat.testBit_div_two_pow]
  by_cases below : n < lo
  · have narrow : n < 16 := by omega
    rw [if_pos below, if_neg (by omega), decide_eq_true below, decide_eq_true narrow]
    simp
  rw [if_neg below]
  by_cases within : n < lo + len
  · have narrow : n < 16 := by omega
    rw [if_pos (by omega), if_pos (by omega), decide_eq_true narrow, Bool.true_and]
  · rw [if_neg (by omega), if_neg (by omega), show n - lo - len + len + lo = n by omega]
    by_cases narrow : n < 16
    · rw [decide_eq_true narrow, Bool.true_and]
    · have wide : w.toNat.testBit n = false :=
        Nat.testBit_lt_two_pow (w.isLt.trans_le (Nat.pow_le_pow_right (by omega) (by omega)))
      rw [wide, Bool.and_false]

theorem bitField_putField (inside : lo + len ≤ 16) (small : v < 2 ^ len) :
    bitField lo len (putField lo len v w) = v := by
  refine Nat.eq_of_testBit_eq fun n => ?_
  rw [bitField_testBit, putField_testBit inside small]
  by_cases within : n < len
  · rw [if_pos (by omega), decide_eq_true within, Bool.true_and, Nat.add_sub_cancel]
  · rw [decide_eq_false within, Bool.false_and]
    exact (Nat.testBit_lt_two_pow (small.trans_le (Nat.pow_le_pow_right (by omega) (by omega)))).symm

theorem bitField_putField_of_apart {lo' len' : Nat} (inside : lo + len ≤ 16) (small : v < 2 ^ len)
    (apart : lo' + len' ≤ lo ∨ lo + len ≤ lo') :
    bitField lo' len' (putField lo len v w) = bitField lo' len' w := by
  refine Nat.eq_of_testBit_eq fun n => ?_
  rw [bitField_testBit, bitField_testBit, putField_testBit inside small]
  by_cases within : n < len'
  · rw [if_neg (by omega)]
  · rw [decide_eq_false within, Bool.false_and, Bool.false_and]

theorem bitAt_putField_of_apart {n : Nat} (inside : lo + len ≤ 16) (small : v < 2 ^ len)
    (apart : n < lo ∨ lo + len ≤ n) : bitAt n (putField lo len v w) = bitAt n w := by
  rw [bitAt_eq_testBit, bitAt_eq_testBit, putField_testBit inside small, if_neg (by omega)]

/-- A field that holds the value already stays as it is. -/
theorem putField_self (holds : bitField lo len w = v) : putField lo len v w = w := by
  have fits : v * 2 ^ lo ≤ w.toNat := holds ▸ bitField_le lo len w
  refine BitVec.eq_of_toNat_eq ?_
  rw [putField, holds, Nat.sub_add_cancel fits, BitVec.toNat_ofNat]
  exact Nat.mod_eq_of_lt w.isLt

theorem wordOf_self (n : Nat) (holds : w.toNat = n) : wordOf n = w := by
  rw [wordOf, ← holds, BitVec.ofNat_toNat, BitVec.setWidth_eq]

theorem signedWord_toInt (w : Word) : signedWord w.toInt = w := BitVec.ofInt_toInt

end

/-! ### The stored form of an entry (R118, R195) -/

section
variable {w0 w1 w2 w3 : Word}

/-- What a source record becomes: the feeder, the gain, the hold limit and the shift clamped in place. -/
theorem storeSource_of_role (known : bitField 12 2 w1 ≠ 3) :
    storeSource w0 w1 w2 w3 =
      some [w0, putField 0 3 (min 5 (bitField 0 3 w1)) w1, wordOf (max 1 w2.toNat),
        putField 0 4 (max 1 (bitField 0 4 w3)) (putField 8 5 (min 24 (bitField 8 5 w3)) w3)] :=
  if_neg known

theorem storeProfile_of_mode (known : bitField 0 3 w0 ≤ 3) :
    storeProfile w0 w1 w2 w3 =
      some [w0, wordOf (min 256 w1.toNat), wordOf (min 32767 w2.toNat), wordOf (min 32767 w3.toNat)] :=
  if_neg (by omega)

theorem storeTerm_of_codes (first : bitField 0 5 w1 ≤ 15) (second : bitField 5 5 w1 ≤ 15)
    (third : bitField 10 5 w1 ≤ 15) : storeTerm w0 w1 = some [putField 0 8 (max 1 (bitField 0 8 w0)) w0, w1] :=
  if_neg (by omega)

/-- R195: the words of a source record as stored. -/
theorem sourceWords_stored (w1 w3 : Word) :
    bitField 0 3 (putField 0 3 (min 5 (bitField 0 3 w1)) w1) = min 5 (bitField 0 3 w1)
      ∧ (∀ n, 3 ≤ n → bitAt n (putField 0 3 (min 5 (bitField 0 3 w1)) w1) = bitAt n w1)
      ∧ bitField 12 2 (putField 0 3 (min 5 (bitField 0 3 w1)) w1) = bitField 12 2 w1
      ∧ bitField 0 4 (putField 0 4 (max 1 (bitField 0 4 w3)) (putField 8 5 (min 24 (bitField 8 5 w3)) w3)) =
          max 1 (bitField 0 4 w3)
      ∧ bitField 8 5 (putField 0 4 (max 1 (bitField 0 4 w3)) (putField 8 5 (min 24 (bitField 8 5 w3)) w3)) =
          min 24 (bitField 8 5 w3)
      ∧ ∀ n, (4 ≤ n ∧ n < 8) ∨ 13 ≤ n →
          bitAt n (putField 0 4 (max 1 (bitField 0 4 w3)) (putField 8 5 (min 24 (bitField 8 5 w3)) w3)) =
            bitAt n w3 := by
  have feeder : min 5 (bitField 0 3 w1) < 2 ^ 3 := by omega
  have hold : max 1 (bitField 0 4 w3) < 2 ^ 4 := by
    have field := bitField_lt 0 4 w3
    omega
  have shift : min 24 (bitField 8 5 w3) < 2 ^ 5 := by omega
  refine ⟨bitField_putField (by decide) feeder, fun n above => bitAt_putField_of_apart (by decide) feeder (.inr above),
    bitField_putField_of_apart (by decide) feeder (.inr (by decide)), bitField_putField (by decide) hold, ?_,
    fun n apart => ?_⟩
  · rw [bitField_putField_of_apart (by decide) hold (.inr (by decide)), bitField_putField (by decide) shift]
  · rw [bitAt_putField_of_apart (by decide) hold (by omega), bitAt_putField_of_apart (by decide) shift (by omega)]

theorem trigger_stored (w0 : Word) :
    bitField 0 8 (putField 0 8 (max 1 (bitField 0 8 w0)) w0) = max 1 (bitField 0 8 w0)
      ∧ ∀ n, 8 ≤ n → bitAt n (putField 0 8 (max 1 (bitField 0 8 w0)) w0) = bitAt n w0 := by
  have trigger : max 1 (bitField 0 8 w0) < 2 ^ 8 := by
    have field := bitField_lt 0 8 w0
    omega
  exact ⟨bitField_putField (by decide) trigger,
    fun n above => bitAt_putField_of_apart (by decide) trigger (.inr above)⟩

/-- A stored source record is stored unchanged. -/
theorem storeSource_again {vs : List Word} (stored : storeSource w0 w1 w2 w3 = some vs) :
    ∃ v1 v2 v3, vs = [w0, v1, v2, v3] ∧ storeSource w0 v1 v2 v3 = some [w0, v1, v2, v3] := by
  have known : bitField 12 2 w1 ≠ 3 := fun unknown => by simp [storeSource, unknown] at stored
  rw [storeSource_of_role known, Option.some.injEq] at stored
  refine ⟨_, _, _, stored.symm, ?_⟩
  obtain ⟨feeder, -, role, hold, shift, -⟩ := sourceWords_stored w1 w3
  rw [storeSource_of_role (role.trans_ne known)]
  generalize putField 0 3 _ w1 = v1 at *
  generalize putField 0 4 _ _ = v3 at *
  have gain : (wordOf (max 1 w2.toNat)).toNat = max 1 w2.toNat := wordOf_toNat (by omega)
  rw [putField_self (w := v1) (by omega), putField_self (w := v3) (lo := 8) (by omega),
    putField_self (w := v3) (by omega), gain, max_eq_right (le_max_left 1 _)]

theorem storeProfile_again {vs : List Word} (stored : storeProfile w0 w1 w2 w3 = some vs) :
    ∃ v1 v2 v3, vs = [w0, v1, v2, v3] ∧ storeProfile w0 v1 v2 v3 = some [w0, v1, v2, v3] := by
  have known : bitField 0 3 w0 ≤ 3 := by
    by_contra unknown
    simp [storeProfile, Nat.lt_of_not_le unknown] at stored
  rw [storeProfile_of_mode known, Option.some.injEq] at stored
  refine ⟨_, _, _, stored.symm, ?_⟩
  have weight : (wordOf (min 256 w1.toNat)).toNat = min 256 w1.toNat := wordOf_toNat (by omega)
  have arcOn : (wordOf (min 32767 w2.toNat)).toNat = min 32767 w2.toNat := wordOf_toNat (by omega)
  have arcOff : (wordOf (min 32767 w3.toNat)).toNat = min 32767 w3.toNat := wordOf_toNat (by omega)
  rw [storeProfile_of_mode known, weight, arcOn, arcOff]
  simp only [min_eq_right (min_le_left _ _)]

theorem storeTerm_again {vs : List Word} (stored : storeTerm w0 w1 = some vs) :
    ∃ v0, vs = [v0, w1] ∧ storeTerm v0 w1 = some [v0, w1] := by
  have known : ¬ (15 < bitField 0 5 w1 ∨ 15 < bitField 5 5 w1 ∨ 15 < bitField 10 5 w1) := fun unknown => by
    simp [storeTerm, unknown] at stored
  rw [storeTerm, if_neg known, Option.some.injEq] at stored
  refine ⟨_, stored.symm, ?_⟩
  obtain ⟨trigger, -⟩ := trigger_stored w0
  generalize putField 0 8 _ w0 = v0 at *
  rw [storeTerm, if_neg known, putField_self (w := v0) (by omega)]

/-- R6: a signed word clamped to 16 bits without the most negative value. -/
theorem signedWord_clamped (w : Word) :
    signedWord (clampInt (-32767) 32767 w.toInt) = if w = 0x8000 then 0x8001 else w := by
  split
  next lowest =>
    rw [lowest]
    decide
  next other =>
    have above : w.toInt ≠ -32768 := fun least => other (BitVec.eq_of_toInt_eq least)
    have range : -32768 ≤ w.toInt ∧ w.toInt < 32768 := ⟨BitVec.le_toInt w, BitVec.toInt_lt⟩
    rw [clampInt_of_mem (by omega) (by omega), signedWord_toInt]

theorem storeSine (i : Nat) (w : Word) :
    storeEntry .sine i [w] = some [if w = 0x8000 then 0x8001 else w] := by
  rw [← signedWord_clamped]
  rfl

theorem storeControl {i : Nat} {p : Param} (w : Word) (names : Param.all[i]? = some p) :
    storeEntry .control i [w] = (p.storeWord w).map fun v => [v] := by
  rw [storeEntry, names]
  rfl

theorem Param.storeWord_of_enumerated {p : Param} (w : Word) (listed : p.enumerated = true) :
    p.storeWord w = if w.toNat ≤ 1 then some w else none := by
  have plain : p.carried w = w.toNat := if_neg (by rintro rfl; exact absurd listed (by decide))
  rw [Param.storeWord, if_pos listed, plain]
  refine ite_congr (propext ?_) (fun _ => rfl) fun _ => rfl
  omega

theorem Param.storeWord_bias (w : Word) :
    Param.storeWord .bias w = some (if w = 0x8000 then 0x8001 else w) := by
  rw [← signedWord_clamped]
  rfl

/-- R118: a numeric parameter but BIAS takes the nearest value of its range. -/
theorem Param.storeWord_of_numeric {p : Param} (w : Word) (numeric : p.enumerated = false) (plain : p ≠ .bias) :
    ∃ v : Word, p.storeWord w = some v ∧ (v.toNat : Int) = max p.lo (min p.hi w.toNat) := by
  have range : 0 ≤ p.lo ∧ p.lo ≤ p.hi ∧ p.hi < 65536 := by
    revert plain numeric
    cases p <;> decide
  have carried : p.carried w = w.toNat := if_neg plain
  refine ⟨_, if_neg (by simp [numeric]), ?_⟩
  rw [carried, clampInt_eq_max_min p.lo_le_hi, signedWord, BitVec.toNat_ofInt]
  omega

end

/-- R6: a clamped signed word is stored as it is. -/
theorem clampedWord_again (w : Word) :
    (if (if w = 0x8000 then 0x8001 else w) = (0x8000 : Word) then 0x8001 else if w = 0x8000 then 0x8001 else w) =
      if w = 0x8000 then (0x8001 : Word) else w := by
  by_cases lowest : w = 0x8000
  · rw [if_pos lowest]
    rfl
  · rw [if_neg lowest, if_neg lowest]

theorem Param.storeWord_again {p : Param} {w v : Word} (stored : p.storeWord w = some v) :
    p.storeWord v = some v := by
  cases listed : p.enumerated with
  | true =>
    rw [Param.storeWord_of_enumerated w listed] at stored
    split at stored
    next code =>
      obtain rfl := Option.some.inj stored
      rw [Param.storeWord_of_enumerated w listed, if_pos code]
    next => cases stored
  | false =>
    by_cases bias : p = .bias
    · subst bias
      rw [Param.storeWord_bias, Option.some.injEq] at stored
      rw [Param.storeWord_bias, ← stored, clampedWord_again]
    · obtain ⟨u, first, value⟩ := Param.storeWord_of_numeric w listed bias
      obtain rfl : u = v := Option.some.inj (first.symm.trans stored)
      obtain ⟨x, second, same⟩ := Param.storeWord_of_numeric u listed bias
      have order := p.lo_le_hi
      rw [second, Option.some.injEq]
      exact BitVec.eq_of_toNat_eq (by omega)

/-- R118: a stored entry has the length of the written one and is stored again as it is. -/
theorem storeEntry_again {t : TableId} {i : Nat} {ws vs : List Word} (stored : storeEntry t i ws = some vs) :
    vs.length = ws.length ∧ storeEntry t i vs = some vs := by
  unfold storeEntry at stored
  split at stored
  case h_1 w =>
    obtain rfl := Option.some.inj ((storeSine i w).symm.trans stored)
    refine ⟨rfl, ?_⟩
    rw [storeSine, clampedWord_again]
  case h_2 w0 w1 w2 w3 =>
    obtain ⟨v1, v2, v3, rfl, again⟩ := storeSource_again stored
    exact ⟨rfl, again⟩
  case h_3 w0 w1 w2 w3 =>
    obtain ⟨v1, v2, v3, rfl, again⟩ := storeProfile_again stored
    exact ⟨rfl, again⟩
  case h_4 w =>
    obtain ⟨p, names, value⟩ := Option.bind_eq_some_iff.1 stored
    obtain ⟨v, word, rfl⟩ := Option.map_eq_some_iff.1 value
    refine ⟨rfl, ?_⟩
    rw [storeControl v names, Param.storeWord_again word]
    rfl
  case h_5 w0 w1 =>
    obtain ⟨v0, rfl, again⟩ := storeTerm_again stored
    exact ⟨rfl, again⟩
  case h_6 w =>
    split at stored
    next => cases stored
    next known =>
      obtain rfl := Option.some.inj stored
      exact ⟨rfl, if_neg known⟩
  case h_7 => cases stored

/-- Settles O30: the stored form of each table's entry, which is stored again as it is. -/
theorem storedFormClampsInPlace : Obligations.StoredFormClampsInPlace := by
  refine ⟨fun t i ws vs stored => ?again, fun i w0 w1 w2 w3 =>
    ⟨fun undefined => if_pos undefined, fun known => ⟨_, _, _, storeSource_of_role known, ?source⟩,
      fun undefined => if_pos undefined,
      fun known => ⟨_, _, _, storeProfile_of_mode known, wordOf_toNat (by omega), wordOf_toNat (by omega),
        wordOf_toNat (by omega)⟩⟩,
    fun i w0 w1 => ⟨fun undefined => if_pos undefined, fun first second third =>
      ⟨_, storeTerm_of_codes first second third, trigger_stored w0⟩⟩,
    fun i w => ⟨storeSine i w, rfl, fun p names => ⟨fun listed => ?listed, fun bias => ?bias,
      fun numeric plain => ?numeric⟩⟩⟩
  case source =>
    obtain ⟨feeder, others, -, hold, shift, rest⟩ := sourceWords_stored w1 w3
    exact ⟨feeder, others, wordOf_toNat (by omega), hold, shift, rest⟩
  case listed =>
    rw [storeControl w names, Param.storeWord_of_enumerated w listed]
    split <;> rfl
  case bias =>
    rw [storeControl w names, bias, Param.storeWord_bias]
    rfl
  case numeric =>
    obtain ⟨v, stored, value⟩ := Param.storeWord_of_numeric w numeric plain
    exact ⟨v, by rw [storeControl w names, stored]; rfl, value⟩
  case again => exact storeEntry_again stored

/-! ### The digest (R115) -/

theorem digestStep_toNat (d w : Word) :
    (digestStep d w).toNat = (d.toNat * 2 % 65536 + d.toNat / 32768 + w.toNat) % 65536 := by
  have rotated : (d.rotateLeft 1).toNat = d.toNat * 2 % 65536 + d.toNat / 32768 := by
    have top : d.toNat / 32768 < 2 ^ 1 := by omega
    have even : d.toNat * 2 % 65536 = 2 ^ 1 * (d.toNat % 32768) := by omega
    rw [BitVec.toNat_rotateLeft, even, Nat.two_pow_add_eq_or_of_lt top, ← even, Nat.shiftLeft_eq,
      Nat.shiftRight_eq_div_pow]
  rw [digestStep, BitVec.toNat_add, rotated]

/-- R115: the image holds the tables one behind the other, each whole. -/
theorem image_getElem? {n : Nat} (v : Vector Word n) (before after : List Word) (i : Fin n) :
    (before ++ (v.toList ++ after))[before.length + i.val]? = some v[i] := by
  have inside : i.val < v.toList.length := by simp
  rw [List.getElem?_append_right (by omega), Nat.add_sub_cancel_left, List.getElem?_append_left inside,
    List.getElem?_eq_getElem inside, Vector.getElem_toList]
  rfl

/-- Settles O27: the recurrence of the digest, then the place of each table in the image. -/
theorem digestOfTheImage : Obligations.DigestOfTheImage := by
  refine ⟨rfl, fun ws w => ?step, fun b => ⟨rfl, ?length, fun i => ?sine, fun i => ?source, fun i => ?profile,
    fun i => ?control, fun i => ?term, fun i => ?report⟩⟩
  case step =>
    rw [digest, List.foldl_append]
    exact digestStep_toNat _ _
  case length => simp [Bank.image, Bank.words]
  case sine =>
    have at' := image_getElem? b.sineWords [] (b.words .source ++ b.words .profile ++ b.words .control ++ b.words .term
      ++ b.words .report) i
    simpa [Bank.image, Bank.words] using at'
  case source =>
    have at' := image_getElem? b.sourceWords (b.words .sine) (b.words .profile ++ b.words .control ++ b.words .term
      ++ b.words .report) i
    simpa [Bank.image, Bank.words] using at'
  case profile =>
    have at' := image_getElem? b.profileWords (b.words .sine ++ b.words .source) (b.words .control ++ b.words .term
      ++ b.words .report) i
    simpa [Bank.image, Bank.words] using at'
  case control =>
    have at' := image_getElem? b.controlWords (b.words .sine ++ b.words .source ++ b.words .profile)
      (b.words .term ++ b.words .report) i
    simpa [Bank.image, Bank.words] using at'
  case term =>
    have at' := image_getElem? b.termWords (b.words .sine ++ b.words .source ++ b.words .profile ++ b.words .control)
      (b.words .report) i
    simpa [Bank.image, Bank.words] using at'
  case report =>
    have at' := image_getElem? b.reportWords (b.words .sine ++ b.words .source ++ b.words .profile ++ b.words .control
      ++ b.words .term) [] i
    simpa [Bank.image, Bank.words] using at'

end Sys2Proof.Machine

/-! A list written into a table, one entry behind the other (R118). -/

namespace Sys2Proof.Machine

section
variable {t : TableId} {i : Nat} {b : Bank} {e : List Word} {rest : List (List Word)}

/-! ### The first entry of a list -/

theorem writeEntries_of_beyond (past : t.beyond i = true) :
    writeEntries t i b (e :: rest) = ⟨b, 0, false, .pastEnd⟩ := by
  rw [writeEntries, if_pos past]

theorem writeEntries_of_undefined (within : t.beyond i = false) (undefined : storeEntry t (t.place i) e = none) :
    writeEntries t i b (e :: rest) = ⟨b, 0, false, .undefinedCode⟩ := by
  rw [writeEntries, if_neg (by simp [within]), undefined]

theorem writeEntries_of_stored {v : List Word} (within : t.beyond i = false)
    (stored : storeEntry t (t.place i) e = some v) :
    let r := writeEntries t (i + 1) (b.setEntry t (t.place i) v) rest
    writeEntries t i b (e :: rest) = ⟨r.bank, r.written + 1, r.clamped || v != e, r.ending⟩ := by
  rw [writeEntries, if_neg (by simp [within]), stored]

/-- The first entry of a list: past the end, undefined, or stored with the rest behind it. -/
theorem firstEntry_cases (t : TableId) (i : Nat) (e : List Word) :
    t.beyond i = true ∨ (t.beyond i = false ∧ storeEntry t (t.place i) e = none)
      ∨ t.beyond i = false ∧ ∃ v, storeEntry t (t.place i) e = some v := by
  cases t.beyond i with
  | true => exact .inl rfl
  | false =>
    cases stored : storeEntry t (t.place i) e with
    | none => exact .inr (.inl ⟨rfl, rfl⟩)
    | some v => exact .inr (.inr ⟨rfl, v, rfl⟩)

/-! ### The entries of a bank after one is put -/

theorem Bank.entry_getElem? (b : Bank) (t : TableId) (k m : Nat) :
    (b.entry t k)[m]? = if m < t.entryWords then (b.words t)[k * t.entryWords + m]? else none := by
  rw [Bank.entry, List.getElem?_take, List.getElem?_drop]

theorem Bank.entry_setEntry_of_ne {u : TableId} {k : Nat} {ws : List Word} (length : ws.length = t.entryWords)
    (other : ¬ (u = t ∧ k = i)) : (b.setEntry t i ws).entry u k = b.entry u k := by
  by_cases table : u = t
  · subst table
    have away : k ≠ i := fun same => other ⟨rfl, same⟩
    refine List.ext_getElem? fun m => ?_
    rw [Bank.entry_getElem?, Bank.entry_getElem?]
    refine ite_congr rfl (fun inside => ?_) fun _ => rfl
    by_cases within : k * u.entryWords + m < u.entries * u.entryWords
    · have put := b.words_setEntry u i ws _ within
      rw [if_neg ?apart] at put
      · have before : k * u.entryWords + m < (b.words u).length := by rwa [Bank.words_length]
        have after : k * u.entryWords + m < ((b.setEntry u i ws).words u).length := by rwa [Bank.words_length]
        rw [List.getD_eq_getElem _ _ after, List.getD_eq_getElem _ _ before] at put
        rw [List.getElem?_eq_getElem after, List.getElem?_eq_getElem before, put]
      · rw [length]
        rintro ⟨lower, upper⟩
        obtain below | above := Nat.lt_or_gt_of_ne away
        · have step := Nat.mul_le_mul_right u.entryWords (Nat.succ_le_of_lt below)
          rw [Nat.succ_mul] at step
          omega
        · have step := Nat.mul_le_mul_right u.entryWords (Nat.succ_le_of_lt above)
          rw [Nat.succ_mul] at step
          omega
    · rw [List.getElem?_eq_none (by rw [Bank.words_length]; omega),
        List.getElem?_eq_none (by rw [Bank.words_length]; omega)]
  · rw [Bank.entry, Bank.words_setEntry_of_ne _ _ _ _ _ table]
    rfl

theorem TableId.beyond_eq_true_iff (t : TableId) (i : Nat) : t.beyond i = true ↔ t ≠ .sine ∧ t.entries ≤ i := by
  simp [TableId.beyond]

theorem TableId.place_lt (within : t.beyond i = false) : t.place i < t.entries := by
  rw [TableId.place]
  split
  next sine =>
    rw [sine]
    exact Nat.mod_lt _ (by decide)
  next other =>
    simpa [TableId.beyond, other] using within

/-- R118: the entries of one list, at most 256, go to places of their own. -/
theorem TableId.place_ne {j : Nat} (later : 0 < j) (few : j < 256) : t.place (i + j) ≠ t.place i := by
  rw [TableId.place, TableId.place]
  split <;> omega

/-! ### What a list leaves and where it ends -/

theorem writeEntries_written_le (t : TableId) (i : Nat) (b : Bank) (es : List (List Word)) :
    (writeEntries t i b es).written ≤ es.length := by
  induction es generalizing i b with
  | nil => exact Nat.le_refl 0
  | cons e rest ih =>
    obtain past | ⟨within, undefined⟩ | ⟨within, v, stored⟩ := firstEntry_cases t i e
    · rw [writeEntries_of_beyond past]
      exact Nat.zero_le _
    · rw [writeEntries_of_undefined within undefined]
      exact Nat.zero_le _
    · rw [writeEntries_of_stored within stored]
      exact Nat.succ_le_succ (ih _ _)

/-- R118: no entry but those written changes. -/
theorem writeEntries_entry_of_ne {es : List (List Word)} (lengths : ∀ e ∈ es, e.length = t.entryWords) {u : TableId}
    {k : Nat} (other : ∀ j, j < (writeEntries t i b es).written → ¬ (u = t ∧ k = t.place (i + j))) :
    (writeEntries t i b es).bank.entry u k = b.entry u k := by
  induction es generalizing i b with
  | nil => rfl
  | cons e rest ih =>
    obtain past | ⟨within, undefined⟩ | ⟨within, v, stored⟩ := firstEntry_cases t i e
    · rw [writeEntries_of_beyond past]
    · rw [writeEntries_of_undefined within undefined]
    · rw [writeEntries_of_stored within stored] at other ⊢
      have first : ¬ (u = t ∧ k = t.place i) := other 0 (Nat.succ_pos _)
      have length : v.length = t.entryWords :=
        (storeEntry_again stored).1.trans (lengths e List.mem_cons_self)
      refine (ih (fun x mem => lengths x (List.mem_cons_of_mem _ mem)) fun j written => ?_).trans
        (Bank.entry_setEntry_of_ne length first)
      have later := other (j + 1) (Nat.succ_lt_succ written)
      rwa [show i + (j + 1) = i + 1 + j by omega] at later

/-- R118: each entry written lies within the table and stands there in its stored form. -/
theorem writeEntries_entry {es : List (List Word)} (few : es.length ≤ 256)
    (lengths : ∀ e ∈ es, e.length = t.entryWords) {j : Nat} (written : j < (writeEntries t i b es).written)
    (listed : es[j]? = some e) :
    t.beyond (i + j) = false
      ∧ ∃ v, storeEntry t (t.place (i + j)) e = some v
          ∧ (writeEntries t i b es).bank.entry t (t.place (i + j)) = v := by
  induction es generalizing i b j with
  | nil => simp at listed
  | cons x rest ih =>
    obtain past | ⟨within, undefined⟩ | ⟨within, v, stored⟩ := firstEntry_cases t i x
    · rw [writeEntries_of_beyond past] at written
      exact absurd written (Nat.not_lt_zero j)
    · rw [writeEntries_of_undefined within undefined] at written
      exact absurd written (Nat.not_lt_zero j)
    · rw [writeEntries_of_stored within stored] at written ⊢
      have lengths' : ∀ e ∈ rest, e.length = t.entryWords := fun y mem => lengths y (List.mem_cons_of_mem _ mem)
      have few' : rest.length + 1 ≤ 256 := few
      cases j with
      | zero =>
        obtain rfl : x = e := by simpa using listed
        have length : v.length = t.entryWords :=
          (storeEntry_again stored).1.trans (lengths x List.mem_cons_self)
        refine ⟨within, v, stored, ?_⟩
        refine (writeEntries_entry_of_ne lengths' fun m done => ?_).trans
          (Bank.entry_setEntry _ _ _ _ (TableId.place_lt within) length)
        have inside := writeEntries_written_le t (i + 1) (b.setEntry t (t.place i) v) rest
        rintro ⟨-, same⟩
        have later := TableId.place_ne (t := t) (i := i) (Nat.succ_pos m) (by omega)
        rw [show i + m.succ = i + 1 + m by omega] at later
        exact later same.symm
      | succ j =>
        have later := ih (i := i + 1) (b := b.setEntry t (t.place i) v) (by omega) lengths'
          (Nat.lt_of_succ_lt_succ written) (by simpa using listed)
        rwa [show i + (j + 1) = i + 1 + j by omega]

theorem writeEntries_whole_iff (t : TableId) (i : Nat) (b : Bank) (es : List (List Word)) :
    (writeEntries t i b es).ending = .whole ↔ (writeEntries t i b es).written = es.length := by
  induction es generalizing i b with
  | nil => exact ⟨fun _ => rfl, fun _ => rfl⟩
  | cons e rest ih =>
    obtain past | ⟨within, undefined⟩ | ⟨within, v, stored⟩ := firstEntry_cases t i e
    · rw [writeEntries_of_beyond past]
      simp
    · rw [writeEntries_of_undefined within undefined]
      simp
    · rw [writeEntries_of_stored within stored]
      exact (ih _ _).trans (Nat.succ_inj).symm

theorem writeEntries_pastEnd_iff (t : TableId) (i : Nat) (b : Bank) (es : List (List Word)) :
    (writeEntries t i b es).ending = .pastEnd ↔
      (writeEntries t i b es).written < es.length ∧ t.beyond (i + (writeEntries t i b es).written) = true := by
  induction es generalizing i b with
  | nil => simp [writeEntries]
  | cons e rest ih =>
    obtain past | ⟨within, undefined⟩ | ⟨within, v, stored⟩ := firstEntry_cases t i e
    · rw [writeEntries_of_beyond past]
      simp [past]
    · rw [writeEntries_of_undefined within undefined]
      simp [within]
    · rw [writeEntries_of_stored within stored]
      refine (ih _ _).trans (and_congr (Nat.succ_lt_succ_iff).symm ?_)
      dsimp only
      rw [Nat.add_right_comm i 1, Nat.add_assoc]

theorem writeEntries_undefinedCode (t : TableId) (i : Nat) (b : Bank) (es : List (List Word))
    (undefined : (writeEntries t i b es).ending = .undefinedCode) :
    ∃ e, es[(writeEntries t i b es).written]? = some e ∧ t.beyond (i + (writeEntries t i b es).written) = false
      ∧ storeEntry t (t.place (i + (writeEntries t i b es).written)) e = none := by
  induction es generalizing i b with
  | nil => simp [writeEntries] at undefined
  | cons e rest ih =>
    obtain past | ⟨within, none⟩ | ⟨within, v, stored⟩ := firstEntry_cases t i e
    · rw [writeEntries_of_beyond past] at undefined
      cases undefined
    · rw [writeEntries_of_undefined within none]
      exact ⟨e, rfl, within, none⟩
    · rw [writeEntries_of_stored within stored] at undefined ⊢
      obtain ⟨x, listed, inside, refused⟩ := ih _ _ undefined
      refine ⟨x, by simpa using listed, ?_⟩
      dsimp only
      rw [Nat.add_right_comm i 1, Nat.add_assoc] at inside refused
      exact ⟨inside, refused⟩

theorem writeEntries_clamped_iff (t : TableId) (i : Nat) (b : Bank) (es : List (List Word)) :
    (writeEntries t i b es).clamped = true ↔
      ∃ j e, j < (writeEntries t i b es).written ∧ es[j]? = some e ∧ storeEntry t (t.place (i + j)) e ≠ some e := by
  induction es generalizing i b with
  | nil => simp [writeEntries]
  | cons e rest ih =>
    obtain past | ⟨within, undefined⟩ | ⟨within, v, stored⟩ := firstEntry_cases t i e
    · rw [writeEntries_of_beyond past]
      simp
    · rw [writeEntries_of_undefined within undefined]
      simp
    · rw [writeEntries_of_stored within stored]
      simp only [Bool.or_eq_true, bne_iff_ne]
      rw [ih]
      constructor
      · rintro (⟨j, x, done, listed, changes⟩ | changed)
        · refine ⟨j + 1, x, Nat.succ_lt_succ done, by simpa using listed, ?_⟩
          rwa [show i + (j + 1) = i + 1 + j by omega]
        · refine ⟨0, e, Nat.succ_pos _, rfl, ?_⟩
          rw [Nat.add_zero, stored]
          exact fun same => changed (Option.some.inj same)
      · rintro ⟨j, x, done, listed, changes⟩
        cases j with
        | zero =>
          obtain rfl : e = x := by simpa using listed
          rw [Nat.add_zero, stored] at changes
          exact .inr fun same => changes (congrArg some same)
        | succ j =>
          refine .inl ⟨j, x, Nat.lt_of_succ_lt_succ done, by simpa using listed, ?_⟩
          rwa [show i + (j + 1) = i + 1 + j by omega] at changes

end

/-- Settles O29: by induction on the list, which the lemmas above do for each clause. -/
theorem listIsWrittenInOrder : Obligations.ListIsWrittenInOrder := by
  intro t i b es few lengths w place past
  have within (j : Nat) : ¬ past j ↔ t.beyond (i + j) = false := by
    rw [← Bool.not_eq_true, TableId.beyond_eq_true_iff]
  have inside (j : Nat) : past j ↔ t.beyond (i + j) = true := (TableId.beyond_eq_true_iff t (i + j)).symm
  refine ⟨writeEntries_written_le t i b es, fun j e done listed => ?_, fun u k other => ?_,
    writeEntries_whole_iff t i b es, ?_, fun undefined => ?_, writeEntries_clamped_iff t i b es⟩
  · rw [within]
    exact writeEntries_entry few lengths done listed
  · exact writeEntries_entry_of_ne lengths other
  · rw [inside]
    exact writeEntries_pastEnd_iff t i b es
  · obtain ⟨e, listed, beyond, refused⟩ := writeEntries_undefinedCode t i b es undefined
    exact ⟨e, listed, (within _).2 beyond, refused⟩

end Sys2Proof.Machine

/-! The validation of a bank, and what the blocks read of its stored words (R111 to R114, R123, R130, R195). -/

namespace Sys2Proof.Machine

section
variable {b : Bank}

/-! ### The first offending entry (R123) -/

theorem SourceRecord.conflictsWith_iff (r q : SourceRecord) :
    r.conflictsWith q = true ↔
      q.ident = r.ident ∨ (q.role = .voltageMain ∧ r.role = .voltageMain)
        ∨ (q.role = .voltageStandby ∧ r.role = .voltageStandby)
        ∨ (q.role = .feeder ∧ r.role = .feeder ∧ q.feeder = r.feeder) := by
  simp only [SourceRecord.conflictsWith, Bool.or_eq_true, Bool.and_eq_true, beq_iff_eq, or_assoc]
  constructor
  · rintro (h | ⟨h, g⟩ | ⟨h, g⟩ | ⟨⟨h, g⟩, k⟩)
    · exact .inl h.symm
    · exact .inr (.inl ⟨g, h⟩)
    · exact .inr (.inr (.inl ⟨g, h⟩))
    · exact .inr (.inr (.inr ⟨g, h, k.symm⟩))
  · rintro (h | ⟨h, g⟩ | ⟨h, g⟩ | ⟨h, g, k⟩)
    · exact .inl h.symm
    · exact .inr (.inl ⟨g, h⟩)
    · exact .inr (.inr (.inl ⟨g, h⟩))
    · exact .inr (.inr (.inr ⟨⟨g, h⟩, k.symm⟩))

/-- R123: a stored record that conflicts with a stored record of lower index. -/
def Bank.OffendingSource (b : Bank) (k : Nat) : Prop :=
  (b.storedSource k).conflictsBelow ((List.range k).map b.storedSource) = true

theorem Bank.offendingSource_iff (k : Nat) :
    b.OffendingSource k ↔
      ∃ j, j < k ∧ (b.storedSource j).enabled = true ∧ (b.storedSource k).enabled = true
        ∧ ((b.storedSource j).ident = (b.storedSource k).ident
          ∨ ((b.storedSource j).role = .voltageMain ∧ (b.storedSource k).role = .voltageMain)
          ∨ ((b.storedSource j).role = .voltageStandby ∧ (b.storedSource k).role = .voltageStandby)
          ∨ ((b.storedSource j).role = .feeder ∧ (b.storedSource k).role = .feeder
            ∧ (b.storedSource j).feeder = (b.storedSource k).feeder)) := by
  simp only [Bank.OffendingSource, SourceRecord.conflictsBelow, Bool.and_eq_true, List.any_map, List.any_eq_true,
    List.mem_range, Function.comp_apply]
  constructor
  · rintro ⟨enabled, j, below, other, conflict⟩
    exact ⟨j, below, other, enabled, (SourceRecord.conflictsWith_iff _ _).1 conflict⟩
  · rintro ⟨j, below, other, enabled, conflict⟩
    exact ⟨enabled, j, below, other, (SourceRecord.conflictsWith_iff _ _).2 conflict⟩

/-- The first record from index `k` on that conflicts with a lower one. -/
theorem firstSourceConflict_eq_find (f : Nat → SourceRecord) (k n : Nat) :
    firstSourceConflict ((List.range k).map f) k ((List.range' k n).map f) =
      (List.range' k n).find? fun j => (f j).conflictsBelow ((List.range j).map f) := by
  induction n generalizing k with
  | zero => rfl
  | succ n ih =>
    rw [List.range'_succ, List.map_cons, firstSourceConflict, List.find?_cons]
    have next := ih (k + 1)
    rw [List.range_succ, List.map_append] at next
    cases (f k).conflictsBelow ((List.range k).map f) with
    | true => rfl
    | false => simpa using next

theorem Bank.firstSourceConflict_eq (b : Bank) :
    firstSourceConflict [] 0 b.storedSources =
      (List.range 8).find? fun k => (b.storedSource k).conflictsBelow ((List.range k).map b.storedSource) :=
  firstSourceConflict_eq_find b.storedSource 0 8

/-- R123: a stored profile whose arc-off level is not below its arc-on level. -/
def Bank.OffendingProfile (b : Bank) (n : Nat) : Prop := (b.storedProfile n).arcOn ≤ (b.storedProfile n).arcOff

theorem Bank.firstProfile_eq (b : Bank) :
    (feederNumbers.find? fun n => decide ((b.storedProfile n.val).arcOn ≤ (b.storedProfile n.val).arcOff)).map
        (fun n => n.val) =
      (List.range 6).find? fun n => decide ((b.storedProfile n).arcOn ≤ (b.storedProfile n).arcOff) := by
  have numbers : List.range 6 = feederNumbers.map fun n => n.val := rfl
  rw [numbers, List.find?_map]
  rfl

/-- The first number below `n` of which `P` holds. -/
theorem find?_range_eq_some_iff {n k : Nat} {p : Nat → Bool} :
    (List.range n).find? p = some k ↔ k < n ∧ p k = true ∧ ∀ j, j < k → ¬ p j = true := by
  rw [List.find?_range_eq_some, List.mem_range]
  simp only [Bool.not_eq_true', Bool.not_eq_true]
  exact and_left_comm

theorem find?_range_eq_none_iff {n : Nat} {p : Nat → Bool} :
    (List.range n).find? p = none ↔ ∀ k, k < n → ¬ p k = true := by
  rw [List.find?_range_eq_none]
  simp only [Bool.not_eq_true', Bool.not_eq_true]

/-- R123: the sources come before the profiles. -/
theorem Bank.conflict_eq (b : Bank) :
    b.conflict =
      match (List.range 8).find? fun k => (b.storedSource k).conflictsBelow ((List.range k).map b.storedSource) with
      | some k => some (.source, k)
      | none =>
        ((List.range 6).find? fun n => decide ((b.storedProfile n).arcOn ≤ (b.storedProfile n).arcOff)).map
          fun n => (.profile, n) := by
  rw [Bank.conflict, Bank.firstSourceConflict_eq, ← Bank.firstProfile_eq, Option.map_map]
  rfl

theorem Bank.conflict_source_iff (b : Bank) (k : Nat) :
    b.conflict = some (.source, k) ↔ k < 8 ∧ b.OffendingSource k ∧ ∀ j, j < k → ¬ b.OffendingSource j := by
  refine Iff.trans ?_ (find?_range_eq_some_iff
    (p := fun k => (b.storedSource k).conflictsBelow ((List.range k).map b.storedSource)))
  rw [Bank.conflict_eq]
  cases (List.range 8).find? _ with
  | some j => simp
  | none => simp

theorem Bank.conflict_profile_iff (b : Bank) (n : Nat) :
    b.conflict = some (.profile, n) ↔
      (∀ k, k < 8 → ¬ b.OffendingSource k) ∧ n < 6 ∧ b.OffendingProfile n ∧ ∀ j, j < n → ¬ b.OffendingProfile j := by
  have profile := find?_range_eq_some_iff (n := 6) (k := n)
    (p := fun n => decide ((b.storedProfile n).arcOn ≤ (b.storedProfile n).arcOff))
  simp only [decide_eq_true_iff] at profile
  refine Iff.trans ?_ (and_congr find?_range_eq_none_iff profile)
  rw [Bank.conflict_eq]
  cases (List.range 8).find? _ with
  | some j => simp
  | none => simp

theorem Bank.conflict_none_iff (b : Bank) :
    b.conflict = none ↔ (∀ k, k < 8 → ¬ b.OffendingSource k) ∧ ∀ n, n < 6 → ¬ b.OffendingProfile n := by
  have profile := find?_range_eq_none_iff (n := 6)
    (p := fun n => decide ((b.storedProfile n).arcOn ≤ (b.storedProfile n).arcOff))
  simp only [decide_eq_true_iff] at profile
  refine Iff.trans ?_ (and_congr find?_range_eq_none_iff profile)
  rw [Bank.conflict_eq]
  cases (List.range 8).find? _ with
  | some j => simp
  | none => simp

/-! ### No conflict as the blocks read a bank (R130) -/

theorem Bank.not_conflictsWith_of_lt (b : Bank) {j k : Fin 8} (lt : j < k) (first : (b.source j).enabled = true)
    (second : (b.source k).enabled = true) : ¬ (b.source k).conflictsWith (b.source j) = true :=
  fun conflict => b.source_not_clash lt ⟨first, second, conflict⟩

theorem SourceRecord.conflictsWith_symm (r q : SourceRecord) : r.conflictsWith q = true → q.conflictsWith r = true := by
  rw [SourceRecord.conflictsWith_iff, SourceRecord.conflictsWith_iff]
  rintro (ident | ⟨h, g⟩ | ⟨h, g⟩ | ⟨h, g, feeder⟩)
  · exact .inl ident.symm
  · exact .inr (.inl ⟨g, h⟩)
  · exact .inr (.inr (.inl ⟨g, h⟩))
  · exact .inr (.inr (.inr ⟨g, h, feeder.symm⟩))

theorem Bank.not_conflictsWith (b : Bank) {j k : Fin 8} (other : j ≠ k) (first : (b.source j).enabled = true)
    (second : (b.source k).enabled = true) : ¬ (b.source k).conflictsWith (b.source j) = true := by
  obtain lt | gt := Nat.lt_or_gt_of_ne (Fin.val_ne_of_ne other)
  · exact b.not_conflictsWith_of_lt lt first second
  · exact fun conflict => b.not_conflictsWith_of_lt gt second first (SourceRecord.conflictsWith_symm _ _ conflict)

/-- R130, log 25: as read, an arc-off level lies below its arc-on level. -/
theorem Profile.ordered_lt (p : Profile) : p.ordered.arcOff < p.ordered.arcOn := by
  rw [Profile.ordered]
  split
  next below => exact below
  next => exact Int.sub_one_lt_of_le (Int.le_refl _)

end

/-! ### The words of a bank as read (R111 to R114) -/

section
variable {n : Nat} {v : Vector Word n} {w : Word}

theorem wordAt_of_getElem? {i : Nat} (word : v[i]? = some w) : wordAt v i = w := by
  rw [wordAt, word]
  rfl

/-- R111: a parameter stands at its index. -/
theorem Param.all_index : ∀ k : Fin Param.all.length, (Param.all[k]).index = k.val := by decide

theorem Param.index_of_getElem? {i : Nat} {p : Param} (names : Param.all[i]? = some p) : p.index = i := by
  obtain ⟨inside, rfl⟩ := List.getElem?_eq_some_iff.1 names
  exact Param.all_index ⟨i, inside⟩

theorem Param.enumerated_iff (p : Param) :
    p.enumerated = true ↔ p = .nominalFrequency ∨ p = .window ∨ p = .ovLimit := by
  cases p <;> decide

/-- R111, R130: a parameter as read. -/
theorem Param.readWord_eq (p : Param) (w : Word) :
    p.readWord w =
      if p = .nominalFrequency ∨ p = .window ∨ p = .ovLimit then if w.toNat ≤ 1 then (w.toNat : Int) else p.factory
      else max p.lo (min p.hi (if p = .bias then w.toInt else (w.toNat : Int))) := by
  rw [Param.readWord, ← clampInt_eq_max_min p.lo_le_hi]
  refine ite_congr (propext p.enumerated_iff) (fun listed => ?_) fun _ => rfl
  have plain : p.carried w = w.toNat := if_neg (by rintro rfl; simp at listed)
  rw [plain]
  exact ite_congr (propext (by omega)) (fun _ => rfl) fun _ => rfl

theorem Bank.param_of_word (b : Bank) {i : Nat} {p : Param} (word : b.controlWords[i]? = some w)
    (names : Param.all[i]? = some p) : b.param p = p.readWord w := by
  rw [Bank.param, Param.index_of_getElem? names, wordAt_of_getElem? word]

theorem Bank.sine_of_word (b : Bank) {i : Nat} (word : b.sineWords[i % 256]? = some w) :
    b.sine i = max (-32767) w.toInt := by
  have upper : w.toInt < 32768 := BitVec.toInt_lt
  rw [Bank.sine, wordAt_of_getElem? word, readSine, clampInt_eq_max_min (by decide), min_eq_right (by omega)]

/-- R130, log 14: the records of lower index as read that conflict with a stored one. -/
theorem Bank.any_lower (b : Bank) (k : Fin 8) (p : SourceRecord → Bool) :
    (b.sources.take k.val).any p = (List.finRange 8).any fun j => decide (j < k) && p (b.source j) := by
  rw [Bool.eq_iff_iff, List.any_eq_true, List.any_eq_true]
  constructor
  · rintro ⟨r, mem, holds⟩
    obtain ⟨j, inside, rfl⟩ := List.mem_take_iff_getElem.1 mem
    have below : j < k.val := inside.trans_le (min_le_left _ _)
    refine ⟨⟨j, below.trans k.isLt⟩, List.mem_finRange _, ?_⟩
    rw [Bank.source_eq_getElem, holds, Bool.and_true, decide_eq_true_iff]
    exact below
  · rintro ⟨j, -, holds⟩
    obtain ⟨below, conflict⟩ := (Bool.and_eq_true _ _).mp holds
    refine ⟨b.source j, ?_, conflict⟩
    rw [Bank.source_eq_getElem]
    refine List.mem_take_iff_getElem.2 ⟨j.val, ?_, rfl⟩
    rw [Bank.sources_length]
    exact lt_min (of_decide_eq_true below) j.isLt

theorem readRole_eq (n : Nat) :
    readRole n = if n = 0 then .voltageMain else if n = 1 then .voltageStandby else .feeder := by
  rcases n with _ | _ | n <;> rfl

theorem readMode_eq (n : Nat) :
    readMode n = if n = 1 then .monitor else if n = 2 then .reactive else if n = 3 then .full else .off := by
  rcases n with _ | _ | _ | _ | n <;> rfl

theorem Bank.storedSource_of_words (b : Bank) {k : Nat} {w0 w1 w2 w3 : Word}
    (words : ∀ j : Fin 4, b.sourceWords[4 * k + j.val]? = some (![w0, w1, w2, w3] j)) :
    b.storedSource k = readSourceRecord w0 w1 w2 w3 := by
  have first : wordAt b.sourceWords (4 * k) = w0 := wordAt_of_getElem? (words 0)
  have second : wordAt b.sourceWords (4 * k + 1) = w1 := wordAt_of_getElem? (words 1)
  have third : wordAt b.sourceWords (4 * k + 2) = w2 := wordAt_of_getElem? (words 2)
  have fourth : wordAt b.sourceWords (4 * k + 3) = w3 := wordAt_of_getElem? (words 3)
  rw [Bank.storedSource, first, second, third, fourth]

/-- R111, log 14: a source record as read. -/
theorem Bank.source_of_words (b : Bank) {k : Fin 8} {w0 w1 w2 w3 : Word}
    (words : ∀ j : Fin 4, b.sourceWords[4 * k.val + j.val]? = some (![w0, w1, w2, w3] j)) :
    b.source k =
      { readSourceRecord w0 w1 w2 w3 with
        enabled :=
          bitAt 15 w1
            && !((List.finRange 8).any fun j =>
              decide (j < k) && (b.source j).enabled && (b.storedSource k).conflictsWith (b.source j)) } := by
  rw [Bank.source_eq_readBelow b k, SourceRecord.readBelow_eq, Bank.any_lower]
  simp only [Bool.and_assoc]
  generalize (List.finRange 8).any _ = lower
  rw [b.storedSource_of_words words]
  rfl

theorem Bank.storedProfile_of_words (b : Bank) {k : Nat} {w0 w1 w2 w3 : Word}
    (words : ∀ j : Fin 4, b.profileWords[4 * k + j.val]? = some (![w0, w1, w2, w3] j)) :
    b.storedProfile k = Machine.storedProfile w0 w1 w2 w3 := by
  have first : wordAt b.profileWords (4 * k) = w0 := wordAt_of_getElem? (words 0)
  have second : wordAt b.profileWords (4 * k + 1) = w1 := wordAt_of_getElem? (words 1)
  have third : wordAt b.profileWords (4 * k + 2) = w2 := wordAt_of_getElem? (words 2)
  have fourth : wordAt b.profileWords (4 * k + 3) = w3 := wordAt_of_getElem? (words 3)
  rw [Bank.storedProfile, first, second, third, fourth]

/-- R112, log 25: a profile record as read. -/
theorem storedProfile_ordered (w0 w1 w2 w3 : Word) :
    (Machine.storedProfile w0 w1 w2 w3).ordered =
      { mode :=
          if bitField 0 3 w0 = 1 then .monitor else if bitField 0 3 w0 = 2 then .reactive
          else if bitField 0 3 w0 = 3 then .full else .off
        weight := min 256 w1.toNat
        arcOn := min 32767 w2.toNat
        arcOff := if w3.toNat < w2.toNat ∧ w3.toNat < 32767 then w3.toNat else min 32767 w2.toNat - 1
        wakeEnable := bitAt 15 w0
        reportArcs := bitAt 14 w0 } := by
  rw [Profile.ordered, ← readMode_eq]
  have order : (Machine.storedProfile w0 w1 w2 w3).arcOff < (Machine.storedProfile w0 w1 w2 w3).arcOn ↔
      w3.toNat < w2.toNat ∧ w3.toNat < 32767 := by
    simp only [Machine.storedProfile]
    omega
  by_cases below : w3.toNat < w2.toNat ∧ w3.toNat < 32767
  · have off : (min 32767 w3.toNat : Int) = w3.toNat := by omega
    rw [if_pos (order.2 below), if_pos below, Machine.storedProfile, ← off]
    simp
  · rw [if_neg (order.not.2 below), if_neg below]
    simp [Machine.storedProfile]

theorem Condition.ofCode_eq_some_iff (n : Nat) (c : Condition) : Condition.ofCode n = some c ↔ n = c.code := by
  constructor
  · intro named
    have found := List.find?_some named
    exact (beq_iff_eq.1 found).symm
  · rintro rfl
    cases c <;> rfl

theorem Bank.term_of_words (b : Bank) {k : Fin 4} {w0 w1 : Word} (first : b.termWords[2 * k.val]? = some w0)
    (second : b.termWords[2 * k.val + 1]? = some w1) :
    b.term k =
      { enabled := bitAt 15 w0
        conditions := [bitField 0 5 w1, bitField 5 5 w1, bitField 10 5 w1].filterMap Condition.ofCode
        trigger := max 1 (bitField 0 8 w0) } := by
  rw [Bank.term, wordAt_of_getElem? first, wordAt_of_getElem? second]

theorem Condition.factoryRouting_eq (c : Condition) :
    c.factoryRouting =
      if c ∈ [Condition.voltageLost, .converterBlocked, .tableFault, .healthLow] then .event else .silent := by
  cases c <;> rfl

/-- R113, log 14: the routing of a condition as read. -/
theorem Bank.routing_of_word (b : Bank) {c : Condition} (word : b.reportWords[c.code - 1]? = some w) :
    b.routing c =
      if bitField 0 2 w = 0 then .silent else if bitField 0 2 w = 1 then .event
      else if bitField 0 2 w = 2 then .onset
      else if c ∈ [Condition.voltageLost, .converterBlocked, .tableFault, .healthLow] then .event else .silent := by
  rw [Bank.routing, wordAt_of_getElem? word, ← Condition.factoryRouting_eq]
  generalize bitField 0 2 w = code
  rcases code with _ | _ | _ | code <;> rfl

end

/-- Settles O34: the first offending entry is found in index order; each stored word is read by the lemma of its
table. -/
theorem conflictsOfABank : Obligations.ConflictsOfABank := by
  refine ⟨fun b => ?first, fun b => ⟨fun j k other first second => ?apart, fun n => Profile.ordered_lt _⟩,
    fun b => ⟨fun i w p lo hi factory word row => ?param, fun i w => b.sine_of_word,
      fun k w0 w1 w2 w3 words => ?source, fun n w0 w1 w2 w3 words => ?profile, fun n w0 w1 first second => ?term,
      fun c w => b.routing_of_word⟩⟩
  case first =>
    intro bad badProfile
    have offending (k : Nat) : bad k ↔ b.OffendingSource k := (Bank.offendingSource_iff k).symm
    simp only [offending]
    exact ⟨b.conflict_source_iff, b.conflict_profile_iff, b.conflict_none_iff⟩
  case apart =>
    have free := b.not_conflictsWith other first second
    rw [SourceRecord.conflictsWith_iff] at free
    simpa only [not_or] using free
  case param =>
    obtain ⟨q, names, same⟩ : ∃ q, Param.all[i]? = some q ∧ (q, q.lo, q.hi, q.factory) = (p, lo, hi, factory) := by
      rw [← Option.map_eq_some_iff, ← List.getElem?_map]
      exact row
    simp only [Prod.mk.injEq] at same
    obtain ⟨rfl, rfl, rfl, rfl⟩ := same
    rw [b.param_of_word word names, Param.readWord_eq]
  case source =>
    rw [b.source_of_words words, ← readRole_eq]
    exact ⟨rfl, rfl, rfl, Nat.min_comm _ _, rfl, rfl, rfl, rfl⟩
  case profile => rw [Bank.profile, b.storedProfile_of_words words, storedProfile_ordered]
  case term =>
    rw [b.term_of_words first second]
    refine ⟨rfl, rfl, fun c => ?_⟩
    simp only [List.mem_filterMap, Condition.ofCode_eq_some_iff, List.mem_cons, List.not_mem_nil, or_false,
      exists_eq_right]
    simp only [eq_comm (a := c.code)]

end Sys2Proof.Machine

/-! The link C port: a status frame, an edge of CBLK and the stale run (R97 to R104, R108). -/

namespace Sys2Proof.Machine

section
variable {s : State}

/-! ### Changes offered one behind the other (R176, R178) -/

theorem State.offer_append (s : State) (first second : List Offer) :
    s.offer (first ++ second) = (s.offer first).offer second := by
  rw [State.offer_eq, State.offer_eq, State.offer_eq, List.filterMap_append, List.foldl_append]
  rfl

/-- A condition's change alters the event unit alone. -/
theorem State.noteChange_frame (s : State) (c : Condition) (was is : Bool) :
    s.noteChange c was is = { s with events := (s.noteChange c was is).events } := by
  rw [← State.offer_changed, State.offer_eq]
  rfl

theorem State.offer_changed_append (c : Condition) (was is : Bool) (rest : List Offer) :
    s.offer (changed c was is s.tracker.cycle s.ring.lastReleased ++ rest) = (s.noteChange c was is).offer rest := by
  rw [State.offer_append, State.offer_changed]

theorem State.cond_of_events (s : State) (e : EventUnit) : State.cond { s with events := e } = s.cond := by
  funext c
  cases c <;> rfl

/-- R178: one block's changes are noted one after the other. -/
theorem State.offerChanges_cons (s before : State) (c : Condition) (cs : List Condition) :
    s.offerChanges before (c :: cs) = (s.noteChange c (before.cond c) (s.cond c)).offerChanges before cs := by
  rw [State.offerChanges, changeOffers_cons, State.offer_changed_append, State.offerChanges]
  rw [s.noteChange_frame c (before.cond c) (s.cond c)]
  generalize (s.noteChange c (before.cond c) (s.cond c)).events = e
  simp only [changeOffers, State.cond_of_events]

theorem State.offerChanges_nil (s before : State) : s.offerChanges before [] = s := by
  rw [State.offerChanges, changeOffers_nil, State.offer_eq]
  rfl

theorem State.cond_noteChange (s : State) (c : Condition) (was is : Bool) : (s.noteChange c was is).cond = s.cond := by
  rw [State.noteChange_frame, State.cond_of_events]

/-! ### The port's own values (R99, R101 to R104, R108) -/

/-- R103, R108: the thermal run and THERMAL_DERATE after a status frame, from a port that keeps no run outside it. -/
theorem LinkC.takeStatus_eq (b : Bank) (st : ConverterStatus) {l : LinkC} (idle : l.derate = false → l.thermalRun = 0) :
    l.takeStatus b st =
      { l with
        status := some st
        staleRun := 0
        stale := false
        derate := st.thermal || (l.derate && !decide (b.count .thermalClear ≤ l.thermalRun + 1))
        thermalRun :=
          if st.thermal = false ∧ l.derate = true
              ∧ ¬ (st.thermal = false ∧ l.derate = true ∧ b.count .thermalClear ≤ l.thermalRun + 1) then
            l.thermalRun + 1
          else 0 } := by
  cases warning : st.thermal with
  | true => simp [LinkC.takeStatus, LinkC.thermalStep, warning]
  | false =>
    cases derate : l.derate with
    | false => simp [LinkC.takeStatus, LinkC.thermalStep, warning, derate, idle derate]
    | true =>
      by_cases clears : b.count .thermalClear ≤ l.thermalRun + 1
      · simp [LinkC.takeStatus, LinkC.thermalStep, warning, derate, clears]
      · simp [LinkC.takeStatus, LinkC.thermalStep, warning, derate, clears]

theorem State.takeStatus_eq (st : ConverterStatus) :
    s.takeStatus st =
      (((s.setLinkC (s.linkC.takeStatus s.bank st)).noteChange .converterStale s.linkC.stale
          (s.linkC.takeStatus s.bank st).stale).noteChange
        .converterBlocked s.linkC.isBlocked (s.linkC.takeStatus s.bank st).isBlocked).noteChange
          .thermalDerate s.linkC.derate (s.linkC.takeStatus s.bank st).derate := by
  rw [State.takeStatus, linkCConditions, State.offerChanges_cons, State.offerChanges_cons, State.offerChanges_cons,
    State.offerChanges_nil]
  simp only [State.cond_noteChange]
  rfl

end

/-- Settles O26: the port's values, then the changes offered one after the other. -/
theorem linkCPortRules : Obligations.LinkCPortRules := by
  refine ⟨fun s => ⟨fun w1 w2 w3 running synced => ?status,
    fun high => ⟨fun running => congrArg Host.Outcome.next ?edge, fun held => congrArg Host.Outcome.next ?held⟩⟩,
    fun s count last => ?stale⟩
  case status =>
    intro l st clears derate run idle
    refine congrArg Host.Outcome.next ?_
    have fault : w3.toNat % 256 = bitField 0 8 w3 := by simp [bitField]
    have judged : judgeLinkC (sealFrame 0x0C02 [w1, w2, w3]) = some st := by rw [judgeLinkC_sealed, fault]
    rw [State.whenRunning_of_running _ running, State.receiveC_of_some synced judged, State.takeStatus_eq,
      LinkC.takeStatus_eq s.bank _ idle]
    rfl
  case edge =>
    rw [State.edge, State.whenRunning_of_running (s := s.setPins { s.pins with cblk := high }) _ running,
      State.takeEdge, State.offerChanges_single]
    rfl
  case held => exact State.whenRunning_of_not (s := s.setPins { s.pins with cblk := high }) _ held
  case stale =>
    intro run stale
    rw [State.countStale, changeOffers_cons, changeOffers_nil, List.append_nil, ← last]
    exact State.offer_changed (s.setLinkC (s.linkC.countSet s.bank)) _ _ _

end Sys2Proof.Machine

/-! The trip terms at a boundary (R145, R146) and the records that several blocks offer (R175 to R179). -/

namespace Sys2Proof.Machine

/-! ### Trip terms -/

theorem filterMap_ite {α β : Type} (p : α → Bool) (f : α → β) (l : List α) :
    (l.filterMap fun x => if p x then some (f x) else none) = (l.filter p).map f := by
  induction l with
  | nil => rfl
  | cons x rest ih => cases on : p x <;> simp [on, ih]

/-- Settles O41: the step of one term, for each of the four. -/
theorem tripTermsAtABoundary : Obligations.TripTermsAtABoundary := by
  intro s holds run triggers
  have held (n : Fin 4) : (s.bank.term n).holds s.cond = holds n := by
    have named : (!(s.bank.term n).conditions.isEmpty) = decide ((s.bank.term n).conditions ≠ []) := by
      cases (s.bank.term n).conditions <;> rfl
    rw [Term.holds, named]
  have triggered (n : Fin 4) : termTriggers s.bank s.cond s.supervision.termRuns n = triggers n := by
    rw [termTriggers, held, termStep]
    cases on : holds n with
    | false => simp [triggers, on]
    | true => simp [triggers, on, run, Bool.decide_and, beq_eq_decide]
  refine ⟨fun n => ?counts, ?trip, rfl, rfl, rfl, ?records⟩
  case counts =>
    have next : s.trips.1.termRuns[n] = (termStep (s.bank.term n) ((s.bank.term n).holds s.cond) (run n)).1 := by
      simp [State.trips, termsStep, nextRuns, run]
    rw [next, held, termStep]
    split <;> rfl
  case trip =>
    have next : s.trips.1.trip = (s.supervision.trip || termNumbers.any triggers) := by
      rw [State.trips, termsStep, funext triggered]
    rw [next, Bool.or_eq_true, List.any_eq_true]
    refine or_congr_right ⟨fun ⟨n, _, on⟩ => ⟨n, on⟩, fun ⟨n, on⟩ => ⟨n, ?_, on⟩⟩
    fin_cases n <;> decide
  case records =>
    have next : s.trips.2 = (termNumbers.filter triggers).map fun n =>
        .record ⟨.trip n (s.bank.term n).trigger, s.tracker.cycle, s.ring.lastReleased⟩ := by
      rw [State.trips, termsStep, funext triggered]
    rw [next, ← filterMap_ite]
    rfl

/-! ### The order of the records of several blocks (R176, log 1) -/

/-- R178: a merge of several blocks' records keeps each block's own order. -/
theorem mergeRecords_sublist (fuel picks : Nat) (groups : List (List EventRecord))
    (enough : groups.flatten.length ≤ fuel) {g : List EventRecord} (mem : g ∈ groups) :
    g.Sublist (mergeRecords fuel picks groups).1 := by
  induction fuel generalizing picks groups g with
  | zero =>
    have none : groups.flatten = [] := List.eq_nil_of_length_eq_zero (by omega)
    rw [List.flatten_eq_nil_iff.1 none g mem]
    exact List.nil_sublist _
  | succ fuel ih =>
    by_cases empty : g = []
    · rw [empty]
      exact List.nil_sublist _
    have mem' : g ∈ openGroups groups := by simp [openGroups, mem, empty]
    have total : (openGroups groups).flatten.length ≤ fuel + 1 := by rwa [flatten_openGroups]
    have filled : ∀ x ∈ openGroups groups, x ≠ [] := fun x => openGroups_ne_nil
    rw [mergeRecords]
    generalize openGroups groups = gs at *
    match gs with
    | [] => exact absurd mem' List.not_mem_nil
    | [x] =>
      obtain rfl : g = x := List.mem_singleton.1 mem'
      exact List.Sublist.refl _
    | x :: y :: rest =>
      dsimp only
      set gs := x :: y :: rest with several
      have inside : Config.recordOrder picks % gs.length < gs.length := Nat.mod_lt _ (by simp [several])
      generalize Config.recordOrder picks % gs.length = k at *
      have fewer := flatten_modify_tail_length gs k inside (filled _ (List.getElem_mem inside))
      have shorter : (gs.modify k List.tail).flatten.length ≤ fuel := by omega
      obtain ⟨j, place, rfl⟩ := List.getElem_of_mem mem'
      have place' : j < (gs.modify k List.tail).length := by rwa [List.length_modify]
      have after := ih (picks + 1) (gs.modify k List.tail) shorter (List.getElem_mem place')
      rw [List.getElem_modify] at after
      by_cases chosen : k = j
      · subst chosen
        rw [if_pos rfl] at after
        obtain ⟨r, records, front⟩ := List.exists_cons_of_ne_nil empty
        rw [List.getD_eq_getElem _ _ place]
        rw [front] at after ⊢
        exact after.cons_cons r
      · rw [if_neg chosen] at after
        exact after.trans (List.sublist_append_right _ _)

/-- R176: records enter while fewer than sixteen are queued. -/
theorem EventUnit.queue_of_takes (mode : AttentionMode) (e : EventUnit) (recs : List EventRecord)
    (few : e.queue.length ≤ 16) :
    (recs.foldl (EventUnit.take mode) e).queue = (e.queue ++ recs).take 16
      ∧ (recs.foldl (EventUnit.take mode) e).overflow =
          (e.overflow || decide (16 < e.queue.length + recs.length)) := by
  induction recs generalizing e with
  | nil =>
    rw [List.append_nil, List.take_of_length_le few]
    simp [Nat.not_lt.2 few]
  | cons r recs ih =>
    obtain room | full := Nat.lt_or_ge e.queue.length 16
    · have next : (e.take mode r).queue.length = e.queue.length + 1 := by rw [EventUnit.take_of_room room]; simp
      obtain ⟨queue, overflow⟩ := ih (e.take mode r) (by omega)
      rw [List.foldl_cons, queue, overflow, EventUnit.take_of_room room]
      simp [Nat.add_assoc, Nat.add_comm 1]
    · have next : (e.take mode r).queue.length = e.queue.length := by rw [EventUnit.take_of_full full]
      obtain ⟨queue, overflow⟩ := ih (e.take mode r) (by omega)
      rw [List.foldl_cons, queue, overflow, EventUnit.take_of_full full]
      have long : 16 < e.queue.length + (recs.length + 1) := by omega
      simp [List.take_append_of_le_length full, long]

/-- R176: what is queued stays queued while records are offered. -/
theorem EventUnit.length_le_takes (mode : AttentionMode) (e : EventUnit) (recs : List EventRecord) :
    e.queue.length ≤ (recs.foldl (EventUnit.take mode) e).queue.length := by
  induction recs generalizing e with
  | nil => exact Nat.le_refl _
  | cons r recs ih =>
    refine Nat.le_trans ?_ (ih (e.take mode r))
    rw [EventUnit.take]
    split <;> simp

/-- R179: the line and the pulse change with a record that enters. -/
theorem EventUnit.line_of_takes (mode : AttentionMode) (e : EventUnit) (recs : List EventRecord) :
    ((recs.foldl (EventUnit.take mode) e).queue = e.queue →
        (recs.foldl (EventUnit.take mode) e).line = e.line ∧ (recs.foldl (EventUnit.take mode) e).pulse = e.pulse)
      ∧ ((recs.foldl (EventUnit.take mode) e).queue ≠ e.queue →
          (recs.foldl (EventUnit.take mode) e).line = true
            ∧ (recs.foldl (EventUnit.take mode) e).pulse = if mode = .pulsed then some 100 else e.pulse) := by
  induction recs generalizing e with
  | nil => exact ⟨fun _ => ⟨rfl, rfl⟩, fun differs => absurd rfl differs⟩
  | cons r recs ih =>
    obtain ⟨same, differs⟩ := ih (e.take mode r)
    have longer := EventUnit.length_le_takes mode (e.take mode r) recs
    rw [List.foldl_cons]
    generalize recs.foldl (EventUnit.take mode) (e.take mode r) = last at *
    obtain room | full := Nat.lt_or_ge e.queue.length 16
    · rw [EventUnit.take_of_room room] at same differs longer
      refine ⟨fun kept => ?_, fun _ => ?_⟩
      · rw [kept, List.length_append, List.length_singleton] at longer
        omega
      · by_cases one : last.queue = e.queue ++ [r]
        · exact same one
        · obtain ⟨line, pulse⟩ := differs one
          refine ⟨line, pulse.trans ?_⟩
          split <;> rfl
    · rw [EventUnit.take_of_full full] at same differs
      exact ⟨same, differs⟩

/-- Settles O54: the merge is a permutation that keeps each block's order; its records enter one after the other. -/
theorem offeredRecordsEnterOrOverflow : Obligations.OfferedRecordsEnterOrOverflow := by
  intro s groups few e
  let recs := groups.map fun g => g.filterMap (Offer.routed s.bank)
  let merged := (mergeRecords recs.flatten.length s.picks recs).1
  have events : e = merged.foldl (EventUnit.take s.engine.attention) s.events := rfl
  have perm : merged.Perm recs.flatten := mergeRecords_perm _ _ _ (Nat.le_refl _)
  obtain ⟨queue, overflow⟩ := EventUnit.queue_of_takes s.engine.attention s.events merged few
  obtain ⟨kept, entered⟩ := EventUnit.line_of_takes s.engine.attention s.events merged
  rw [events]
  refine ⟨merged, perm, fun g mem => ?_, queue, overflow, kept, entered⟩
  exact mergeRecords_sublist _ _ _ (Nat.le_refl _) (List.mem_map_of_mem mem)

end Sys2Proof.Machine

/-! The limits on the demand and the rationing of its negative-sequence part (R75 to R78). -/

namespace Sys2Proof.Machine

section
variable {b : Bank}

theorem roundedShift_nonneg {k : Nat} {x : Int} (nonneg : 0 ≤ x) : 0 ≤ roundedShift k x := by
  rw [roundedShift]
  split
  next => exact nonneg
  next =>
    rw [if_neg (by omega)]
    exact Int.natCast_nonneg _

/-- R75: the effective limit is not negative, whatever the capability. -/
theorem effectiveLimit_nonneg (b : Bank) (derate : Bool) (c : Nat) : 0 ≤ effectiveLimit b derate c := by
  have rating : 0 ≤ b.param .rating := (b.param_mem .rating).1
  have percentage : 64 ≤ b.param .derate := (b.param_mem .derate).1
  rw [effectiveLimit]
  split
  next =>
    have scaled : 0 ≤ roundedShift 8 (b.param .rating * b.param .derate) :=
      roundedShift_nonneg (Int.mul_nonneg rating (by omega))
    omega
  next => omega

theorem effectiveLimit_le (b : Bank) (derate : Bool) {c : Nat} (range : c ≤ 32767) :
    effectiveLimit b derate c ≤ 32767 := by
  rw [effectiveLimit]
  split <;> omega

theorem capApplies_iff (b : Bank) (overvoltage : Bool) :
    capApplies b overvoltage = true ↔ overvoltage = true ∧ b.param .ovLimit = 1 := by
  rw [capApplies, Bool.and_eq_true, beq_iff_eq]

theorem upperLimit_of_cap {overvoltage : Bool} (imax : Int) (applies : overvoltage = true ∧ b.param .ovLimit = 1) :
    upperLimit b overvoltage imax = min imax (b.param .ovCap) :=
  if_pos ((capApplies_iff b overvoltage).2 applies)

theorem upperLimit_of_no_cap {overvoltage : Bool} (imax : Int) (free : ¬ (overvoltage = true ∧ b.param .ovLimit = 1)) :
    upperLimit b overvoltage imax = imax :=
  if_neg ((capApplies_iff b overvoltage).not.2 free)

theorem upperLimit_mem (b : Bank) (overvoltage : Bool) {imax : Int} (nonneg : 0 ≤ imax) :
    0 ≤ upperLimit b overvoltage imax ∧ upperLimit b overvoltage imax ≤ imax := by
  have cap : 0 ≤ b.param .ovCap := (b.param_mem .ovCap).1
  rw [upperLimit]
  split <;> omega

/-! ### Rationing (R78) -/

theorem ration_of_within {mn : Nat} {r x : Int} (within : (mn : Int) ≤ r) : ration mn r x = x := if_pos within

theorem ration_of_beyond {mn : Nat} {r x : Int} (beyond : r < mn) : ration mn r x = (x * r).tdiv mn :=
  if_neg (Int.not_le.2 beyond)

/-- R78: a part `large + small / 2` that is scaled down by `r / mn`, with both parts cut to whole numbers. -/
theorem scaled_magnitude_le {large small mn r : Nat} (whole : large + small / 2 = mn) (beyond : r < mn) :
    large * r / mn + small * r / mn / 2 ≤ r := by
  have first : large * r / mn * mn ≤ large * r := Nat.div_mul_le_self _ _
  have second : small * r / mn / 2 * 2 * mn ≤ small * r :=
    (Nat.mul_le_mul_right mn (Nat.div_mul_le_self _ 2)).trans (Nat.div_mul_le_self _ _)
  have odd : (2 * large + small) * r ≤ (2 * mn + 1) * r := Nat.mul_le_mul_right r (by omega)
  generalize large * r / mn = a at *
  generalize small * r / mn / 2 = c at *
  by_contra above
  have more : (2 * r + 2) * mn ≤ (2 * (a + c)) * mn := Nat.mul_le_mul_right mn (by omega)
  nlinarith

theorem magnitude_scaled {mn r : Nat} (x y : Int) :
    magnitude ((x * r).tdiv mn) ((y * r).tdiv mn) =
      max x.natAbs y.natAbs * r / mn + min x.natAbs y.natAbs * r / mn / 2 := by
  have scaled (z : Int) : ((z * (r : Int)).tdiv (mn : Int)).natAbs = z.natAbs * r / mn := by
    rw [Int.natAbs_tdiv, Int.natAbs_mul]
    rfl
  have mono : Monotone fun n : Nat => n * r / mn := fun m n le => Nat.div_le_div_right (Nat.mul_le_mul_right r le)
  rw [magnitude, scaled, scaled]
  rw [mono.map_max (a := x.natAbs) (b := y.natAbs), mono.map_min (a := x.natAbs) (b := y.natAbs)]

/-- R78: the magnitude estimate of the rationed pair is within the remainder. -/
theorem magnitude_ration_le {r : Int} (nd nq : Int) (nonneg : 0 ≤ r) :
    (magnitude (ration (magnitude nd nq) r nd) (ration (magnitude nd nq) r nq) : Int) ≤ r := by
  obtain within | beyond := le_or_gt (magnitude nd nq : Int) r
  · rw [ration_of_within within, ration_of_within within]
    exact within
  · obtain ⟨n, rfl⟩ := Int.eq_ofNat_of_zero_le nonneg
    rw [ration_of_beyond beyond, ration_of_beyond beyond, magnitude_scaled]
    exact_mod_cast scaled_magnitude_le rfl (Int.ofNat_lt.1 beyond)

end

/-- Settles O24: each value by its definition; the bounds from those of the limits and of the rationing. -/
theorem demandStaysWithinTheLimit : Obligations.DemandStaysWithinTheLimit := by
  intro b ov der c q nd nq range _ _ d r mn
  obtain ⟨low, high⟩ : 0 ≤ d.imax ∧ d.imax ≤ 32767 :=
    ⟨effectiveLimit_nonneg b der c, effectiveLimit_le b der range⟩
  obtain ⟨upperLow, upperHigh⟩ : 0 ≤ d.upper ∧ d.upper ≤ d.imax := upperLimit_mem b ov low
  have order : -d.imax ≤ d.upper := by omega
  have clamped : d.qc = max (-d.imax) (min d.upper q) := clampInt_eq_max_min order q
  have within : (d.qc.natAbs : Int) ≤ d.imax := by omega
  refine ⟨?nominal, ?derated, low, high, fun on limit => upperLimit_of_cap _ ⟨on, limit⟩, ?upper, ?cap, clamped,
    bne_iff_ne, within, fun fits => ⟨ration_of_within fits, ration_of_within fits, decide_eq_false (Int.not_lt.2 fits)⟩,
    fun beyond => ⟨ration_of_beyond beyond, ration_of_beyond beyond, decide_eq_true beyond⟩,
    magnitude_ration_le nd nq (Int.sub_nonneg.2 within)⟩
  case nominal => rintro rfl; rfl
  case derated => rintro rfl; rfl
  case upper =>
    rintro (off | other)
    · exact upperLimit_of_no_cap _ fun ⟨on, _⟩ => by simp [off] at on
    · exact upperLimit_of_no_cap _ fun ⟨_, limit⟩ => other limit
  case cap =>
    change (capApplies b ov && decide (b.param .ovCap < d.imax)) = true ↔ _
    rw [Bool.and_eq_true, capApplies_iff, decide_eq_true_iff, and_assoc]

end Sys2Proof.Machine

/-! An arrival taken into the ring, the release check with its cascade, and what falls inside it (R20 to R29). -/

namespace Sys2Proof.Machine

section
variable {s : State}

/-! ### The release check (R24, R25) -/

theorem Slot.isEmpty_eq_false_iff (x : Slot) : Slot.isEmpty x = false ↔ ∃ k : Fin 8, (x[k]).isSome = true := by
  rw [Slot.isEmpty, List.all_eq_false]
  simp only [Option.isNone_iff_eq_none, Option.isSome_iff_ne_none]
  exact ⟨fun ⟨k, _, taken⟩ => ⟨k, taken⟩, fun ⟨k, taken⟩ => ⟨k, mem_sourceIndices k, taken⟩⟩

theorem Slot.isEmpty_iff (x : Slot) : Slot.isEmpty x = true ↔ x = Slot.empty := by
  constructor
  · intro empty
    ext1 i inside
    have place := List.all_eq_true.1 empty ⟨i, inside⟩ (mem_sourceIndices _)
    rw [Slot.empty, Vector.getElem_replicate]
    exact Option.isNone_iff_eq_none.1 place
  · rintro rfl
    decide

theorem State.required_iff (k : Fin 8) :
    s.required k = true ↔
      (s.bank.source k).enabled = true
        ∧ (s.intake.sources[k].state = .recovering ∨ s.intake.sources[k].state = .active) := by
  rw [State.required, Bool.and_eq_true, Bool.or_eq_true, beq_iff_eq, beq_iff_eq]

/-- R25: the set at the base is complete. -/
theorem State.baseComplete_iff :
    s.baseComplete = true ↔
      (∃ k : Fin 8, ((s.ring.slots[0])[k]).isSome = true)
        ∧ ∀ k : Fin 8, (s.bank.source k).enabled = true →
            s.intake.sources[k].state = .recovering ∨ s.intake.sources[k].state = .active →
            ((s.ring.slots[0])[k]).isSome = true := by
  rw [State.baseComplete, Bool.and_eq_true, Bool.not_eq_true', Slot.isEmpty_eq_false_iff, List.all_eq_true]
  refine and_congr_right fun _ => ⟨fun all k enabled state => ?_, fun all k _ => ?_⟩
  · have place := all k (mem_sourceIndices k)
    rwa [(State.required_iff k).2 ⟨enabled, state⟩] at place
  · cases required : s.required k with
    | false => rfl
    | true =>
      obtain ⟨enabled, state⟩ := (State.required_iff k).1 required
      exact all k enabled state

/-- R24: the lag condition. -/
theorem lagHolds_iff (b : Bank) (d : Option Nat) :
    lagHolds b d = true ↔ ∃ k, d = some k ∧ b.count .releaseLag ≤ k := by
  cases d with
  | none => simp [lagHolds]
  | some k => simp [lagHolds]

theorem State.releaseCheck_iff (d : Option Nat) (synced : s.ring.synced = true) :
    s.releaseCheck d = true ↔ s.baseComplete = true ∨ lagHolds s.bank d = true := by
  rw [State.releaseCheck, synced, Bool.true_and, Bool.or_eq_true]

theorem nearer_eq (d : Option Nat) : nearer d = d.bind fun k => if k = 0 then none else some (k - 1) := by
  rcases d with _ | _ | k <;> rfl

/-! ### One step of the cascade (R26, R29) -/

theorem State.cascade_of_check (n : Nat) (sets : List SetAsides) (d : Option Nat) (check : s.releaseCheck d = true) :
    let t := s.pause (sets.headD {}).checked fun u => u.releaseSet (sets.headD {})
    s.cascade (n + 1) sets d =
      if t.ring.synced then
        State.cascade n sets.tail (nearer d) (t.setRing (t.ring.advance t.bank.modulus))
      else t := by
  rw [State.cascade, if_pos check]

theorem State.cascade_of_no_check (n : Nat) (sets : List SetAsides) (d : Option Nat)
    (check : ¬ s.releaseCheck d = true) : s.cascade (n + 1) sets d = s := by
  rw [State.cascade, if_neg check]

/-! ### What falls at a place (log 10, log 33) -/

theorem State.serveHead_of_code {r : Request} {rest : List Request} {c : RequestCode}
    (queue : s.engine.queue = r :: rest) (code : RequestCode.ofWord r.code = some c) :
    s.serveHead = s.serve c (handlerOf c) := by
  rw [State.serveHead, queue]
  simp only [code]

theorem State.serveHead_of_unknown {r : Request} {rest : List Request} (queue : s.engine.queue = r :: rest)
    (code : RequestCode.ofWord r.code = none) : s.serveHead = s.serveUnknown := by
  rw [State.serveHead, queue]
  simp only [code]

theorem State.exec_commandOf {x : Aside} {c : Instr} (command : s.commandOf x = some c) :
    exec c s = .next (s.takeAside x) := by
  cases x with
  | serve =>
    obtain ⟨r, head, rfl⟩ := Option.map_eq_some_iff.1 command
    obtain ⟨rest, queue⟩ : ∃ rest, s.engine.queue = r :: rest := List.head?_eq_some_iff.1 head
    have served : s.takeAside .serve = s.serveHead := rfl
    rw [served]
    cases code : RequestCode.ofWord r.code with
    | none => rw [State.serveHead_of_unknown queue code]; rfl
    | some c => rw [State.serveHead_of_code queue code]; exact exec_command c s
  | monStraps level => cases command
  | linkMFrame frame => cases command; rfl
  | linkCFrame frame => cases command; rfl
  | cblkEdge high => cases command; rfl
  | lossOfSignal link mid => cases command; rfl
  | syncRegained link => cases command; rfl
  | cloneCompletion => cases command; rfl
  | commitCompletion => cases command; rfl
  | auditCompletion => cases command; rfl
  | attentionPulseEnd => cases command; rfl
  | powerOn => cases command; rfl
  | hardReset => cases command; rfl

end

/-- Settles O16: the check by its two conditions, one step of the cascade, and the asides of a running part. -/
theorem releaseCheckAndCascade : Obligations.ReleaseCheckAndCascade := by
  refine ⟨fun s n sets d synced => ?check, fun s go => ⟨State.pause_nil s go, fun x xs => rfl⟩,
    fun s running => ⟨fun x c => State.exec_commandOf, fun empty => ?idle, fun level => rfl, ?supply, ?line⟩⟩
  case check =>
    intro complete lag
    have released : s.releaseCheck d = true ↔ complete ∨ lag := by
      rw [State.releaseCheck_iff d synced, State.baseComplete_iff, lagHolds_iff]
    refine ⟨fun check => ?_, fun incomplete near => ?_⟩
    · rw [← nearer_eq]
      exact State.cascade_of_check n sets d (released.2 check)
    · exact State.cascade_of_no_check n sets d fun check => (released.1 check).elim incomplete near
  case idle =>
    have served : s.takeAside .serve = s.serveHead := rfl
    rw [served, State.serveHead, empty]
  case supply => nofun
  case line =>
    have driven : s.takeAside .hardReset = s.driveReset := rfl
    rw [driven, State.driveReset_of_hard (.inl running)]
    nofun

/-! ### The classes of an arrival (R20 to R23) -/

section
variable {s : State} {sets : List SetAsides} {a : Arrival} {rest : List Arrival}

/-- R20: the distance of a count from the base, as the whole number the classes are told by. -/
theorem Ring.distance_cast (b : Bank) (r : Ring) (count : Nat) :
    (r.distance b.modulus count : Int) = ((count : Int) - r.base) % b.modulus := by
  refine Int.toNat_of_nonneg (Int.emod_nonneg _ ?_)
  obtain short | long := b.modulus_cases
  · rw [short]
    decide
  · rw [long]
    decide

theorem State.exec_arrival (sets : List SetAsides) (running : s.phase = .running) (waits : s.ring.waiting = a :: rest) :
    exec (.arrival sets) s = .next ((s.tookFirst rest).takeArrival sets a) := by
  have taken : s.takeNext sets = (s.tookFirst rest).takeArrival sets a := by
    rw [State.takeNext, waits]
    rfl
  exact congrArg Host.Outcome.next ((State.whenRunning_of_running _ running).trans taken)

theorem State.takeArrival_of_unsynced (sets : List SetAsides) (a : Arrival) (unsynced : s.ring.synced = false) :
    s.takeArrival sets a = (s.setRing (s.ring.startAt a)).cascade 16 sets (some 0) := by
  rw [State.takeArrival, if_neg (by simp [unsynced])]

theorem State.takeArrival_of_inside (sets : List SetAsides) (n : Fin 16) (synced : s.ring.synced = true)
    (distance : s.ring.distance s.bank.modulus a.count = n.val) :
    s.takeArrival sets a = s.arriveInside sets a n := by
  rw [State.takeArrival, if_pos synced]
  simp only [distance]
  rw [dif_pos n.isLt]

theorem State.takeArrival_of_ahead (sets : List SetAsides) (synced : s.ring.synced = true)
    (beyond : 16 ≤ s.ring.distance s.bank.modulus a.count)
    (near : s.ring.distance s.bank.modulus a.count < s.bank.modulus / 2) :
    s.takeArrival sets a = s.arriveAhead sets a := by
  rw [State.takeArrival, if_pos synced, dif_neg (by omega), if_pos near]

theorem State.takeArrival_of_behind (sets : List SetAsides) (synced : s.ring.synced = true)
    (far : s.bank.modulus / 2 ≤ s.ring.distance s.bank.modulus a.count) :
    s.takeArrival sets a = s.arriveBehind := by
  have half : 16 ≤ s.bank.modulus / 2 := by
    obtain short | long := s.bank.modulus_cases <;> omega
  rw [State.takeArrival, if_pos synced, dif_neg (by omega), if_neg (by omega)]

theorem State.arriveInside_of_taken (sets : List SetAsides) {n : Fin 16}
    (taken : ((s.ring.slots[n])[a.source]).isSome = true) :
    s.arriveInside sets a n = s.countDuplicate.countHealth streamOrderIndex 1 := by
  rw [State.arriveInside, if_pos taken]

theorem State.arriveInside_of_empty (sets : List SetAsides) {n : Fin 16}
    (empty : (s.ring.slots[n])[a.source] = none) :
    s.arriveInside sets a n = (s.setRing (s.ring.store n a.source a.sample)).cascade 16 sets (some n.val) := by
  rw [State.arriveInside, if_neg (by rw [empty]; exact Bool.false_ne_true)]

/-- R22: the places a resync discards are the slots in which a sample stands. -/
theorem Ring.occupied_eq (r : Ring) : r.occupied = r.slots.toList.countP fun x => decide (x ≠ Slot.empty) := by
  have same (x : Slot) : (!Slot.isEmpty x) = decide (x ≠ Slot.empty) := by
    rw [Bool.eq_iff_iff, Bool.not_eq_true', ← Bool.not_eq_true, Slot.isEmpty_iff, decide_eq_true_iff]
  rw [Ring.occupied, funext same]

end

/-- Settles O15: each class has its branch of `takeArrival`. -/
theorem arrivalIsClassified : Obligations.ArrivalIsClassified := by
  refine ⟨fun s sets a rest running synced waits => ?discarded, fun s sets a rest running waits => ?taken⟩
  case discarded =>
    intro d
    have modulus : (s.tookFirst rest).bank.modulus = s.bank.modulus := rfl
    have distance : ((s.tookFirst rest).ring.distance (s.tookFirst rest).bank.modulus a.count : Int) = d :=
      Ring.distance_cast _ _ _
    rw [State.exec_arrival sets running waits]
    refine ⟨fun far => congrArg Host.Outcome.next ?late, fun n inside taken => congrArg Host.Outcome.next ?duplicate⟩
    case late =>
      exact State.takeArrival_of_behind (s := s.tookFirst rest) sets synced (by omega)
    case duplicate =>
      rw [State.takeArrival_of_inside (s := s.tookFirst rest) sets n synced (by omega)]
      exact State.arriveInside_of_taken (s := s.tookFirst rest) sets taken
  case taken =>
    intro s0 started d
    have modulus : s0.bank.modulus = s.bank.modulus := rfl
    have distance : (s0.ring.distance s0.bank.modulus a.count : Int) = d := Ring.distance_cast _ _ _
    rw [State.exec_arrival sets running waits]
    have start : s0.ring.startAt a = started := by
      have first : emptySlots[(0 : Fin 16)] = Slot.empty := emptySlots_getElem 0
      rw [Ring.startAt, Ring.store, first]
      rfl
    refine ⟨fun unsynced => congrArg Host.Outcome.next ?first, fun n synced inside empty =>
      congrArg Host.Outcome.next ?stored, fun synced beyond near => congrArg Host.Outcome.next ?resync⟩
    case first =>
      rw [State.takeArrival_of_unsynced (s := s0) sets a unsynced, start]
      rfl
    case stored =>
      rw [State.takeArrival_of_inside (s := s0) sets n synced (by omega)]
      exact State.arriveInside_of_empty (s := s0) sets empty
    case resync =>
      rw [State.takeArrival_of_ahead (s := s0) sets synced (by omega) (by omega), State.arriveAhead, start,
        State.record_eq_recorded, Ring.occupied_eq]
      rfl

end Sys2Proof.Machine

/-! Intake's update at a released set (R12 to R15, R66, R139). -/

namespace Sys2Proof.Machine

section
variable {s : State} {b : Bank}

/-! ### The source of a role (R12, R130) -/

theorem SourceRecord.clash_of_role {q r : SourceRecord} {role : Role} (first : q.enabled = true)
    (second : r.enabled = true) (voltage : role ≠ .feeder) (left : q.role = role) (right : r.role = role) :
    q.Clash r := by
  refine ⟨first, second, (SourceRecord.conflictsWith_iff _ _).2 ?_⟩
  cases role with
  | voltageMain => exact .inr (.inl ⟨left, right⟩)
  | voltageStandby => exact .inr (.inr (.inl ⟨left, right⟩))
  | feeder => exact absurd rfl voltage

/-- R130: a voltage role has at most one enabled source. -/
theorem Bank.source_role_injective (b : Bank) {role : Role} (voltage : role ≠ .feeder) {i j : Fin 8}
    (first : (b.source i).enabled = true ∧ (b.source i).role = role)
    (second : (b.source j).enabled = true ∧ (b.source j).role = role) : i = j := by
  obtain lt | same | gt := lt_trichotomy i j
  · exact absurd (SourceRecord.clash_of_role first.1 second.1 voltage first.2 second.2) (b.source_not_clash lt)
  · exact same
  · exact absurd (SourceRecord.clash_of_role second.1 first.1 voltage second.2 first.2) (b.source_not_clash gt)

theorem Bank.voltageSource_eq_some_iff (b : Bank) {role : Role} (voltage : role ≠ .feeder) (k : Fin 8) :
    b.voltageSource role = some k ↔ (b.source k).enabled = true ∧ (b.source k).role = role := by
  have holds {j : Fin 8} (found : b.voltageSource role = some j) :
      (b.source j).enabled = true ∧ (b.source j).role = role := by
    simpa using List.find?_some found
  refine ⟨holds, fun takes => ?_⟩
  cases found : b.voltageSource role with
  | none =>
    have free := List.find?_eq_none.1 found k (mem_sourceIndices k)
    simp [takes] at free
  | some j => rw [b.source_role_injective voltage (holds found) takes]

theorem roleActive_iff (b : Bank) (v : Vector SourceStatus 8) {role : Role} (voltage : role ≠ .feeder) :
    roleActive b v role = true ↔
      ∃ k : Fin 8, (b.source k).enabled = true ∧ (b.source k).role = role ∧ v[k].state = .active := by
  rw [roleActive]
  constructor
  · intro active
    split at active
    next k found =>
      obtain ⟨enabled, takes⟩ := (b.voltageSource_eq_some_iff voltage k).1 found
      exact ⟨k, enabled, takes, beq_iff_eq.1 active⟩
    next => cases active
  · rintro ⟨k, enabled, takes, active⟩
    rw [(b.voltageSource_eq_some_iff voltage k).2 ⟨enabled, takes⟩]
    exact beq_iff_eq.2 active

/-- R14: FEEDER_SOURCE_LOST. -/
theorem anyFeederLost_iff (b : Bank) (v : Vector SourceStatus 8) :
    anyFeederLost b v = true ↔
      ∃ k : Fin 8, (b.source k).enabled = true ∧ (b.source k).role = .feeder ∧ v[k].state = .lost := by
  simp only [anyFeederLost, List.any_eq_true, Bool.and_eq_true, beq_iff_eq, mem_sourceIndices, true_and, and_assoc]

theorem mem_lostFeeders (b : Bank) (before after : Vector SourceStatus 8) (n : Fin 6) :
    n ∈ lostFeeders b before after ↔
      ∃ k : Fin 8, (b.source k).enabled = true ∧ (b.source k).role = .feeder ∧ (b.source k).feeder = n
        ∧ before[k].state ≠ .lost ∧ after[k].state = .lost := by
  simp only [lostFeeders, List.mem_map, List.mem_filter, Bool.and_eq_true, beq_iff_eq, bne_iff_ne, mem_sourceIndices,
    true_and]
  constructor
  · rintro ⟨k, ⟨⟨⟨enabled, feeder⟩, kept⟩, lost⟩, number⟩
    exact ⟨k, enabled, feeder, number, kept, lost⟩
  · rintro ⟨k, enabled, feeder, number, kept, lost⟩
    exact ⟨k, ⟨⟨⟨enabled, feeder⟩, kept⟩, lost⟩, number⟩

/-! ### The windows and arc states of lost feeder sources (R66, R139) -/

theorem State.clearWindows_window (ns : List (Fin 6)) (n : Fin 6) :
    (s.clearWindows ns).transform.windows[n] =
      if n ∈ ns then Window.cleared s.transform.length else s.transform.windows[n] := by
  induction ns generalizing s with
  | nil => simp [State.clearWindows]
  | cons m ns ih =>
    have first : (s.clearWindow m).transform.windows[n] =
        if n = m then Window.cleared s.transform.length else s.transform.windows[n] := by
      have place : m.val = n.val ↔ n = m := by rw [← Fin.ext_iff, eq_comm]
      simp only [State.clearWindow, State.setTransform_transform, Fin.getElem_fin, Vector.getElem_set, place]
    have later : ((s.clearWindow m).clearWindows ns).transform.windows[n] = _ := ih
    change ((s.clearWindow m).clearWindows ns).transform.windows[n] = _
    rw [later, first]
    by_cases behind : n ∈ ns
    · rw [if_pos behind, if_pos (List.mem_cons_of_mem m behind)]
      rfl
    · rw [if_neg behind]
      simp [behind]

theorem State.clearWindows_length (ns : List (Fin 6)) :
    (s.clearWindows ns).transform.length = s.transform.length := by
  induction ns generalizing s with
  | nil => rfl
  | cons m ns ih => exact ih

theorem State.clearWindows_eq (ns : List (Fin 6)) :
    s.clearWindows ns = s.setTransform (s.clearWindows ns).transform := by
  induction ns generalizing s with
  | nil => rfl
  | cons m ns ih => exact ih

theorem darken_getElem (arcs : Vector ArcState 6) (ns : List (Fin 6)) (n : Fin 6) :
    (darken arcs ns)[n] = if n ∈ ns then .dark else arcs[n] := by
  simp [darken]

/-! ### The records offered (R178) -/

theorem map_filter_eq_flatMap {α β : Type} (p : α → Bool) (f : α → β) (l : List α) :
    (l.filter p).map f = l.flatMap fun x => if p x then [f x] else [] := by
  induction l with
  | nil => rfl
  | cons x rest ih => cases on : p x <;> simp [on, ih]

theorem flatMap_filter_map {α β γ : Type} (p : α → Bool) (f : α → β) (g : β → List γ) (l : List α) :
    ((l.filter p).map f).flatMap g = l.flatMap fun x => if p x then g (f x) else [] := by
  induction l with
  | nil => rfl
  | cons x rest ih => cases on : p x <;> simp [on, ih]

theorem sourceOffers_eq (before after : Vector SourceStatus 8) (cycle : Nat) (set : Option Nat) :
    sourceOffers before after cycle set =
      sourceIndices.flatMap fun k =>
        if before[k].state = after[k].state then [] else [.record ⟨.source k after[k].state, cycle, set⟩] := by
  rw [sourceOffers, map_filter_eq_flatMap]
  refine List.flatMap_congr fun k _ => ?_
  by_cases same : before[k].state = after[k].state
  · rw [if_pos same, if_neg (bne_iff_ne.not.2 (not_not.2 same))]
  · rw [if_neg same, if_pos (bne_iff_ne.2 same)]

theorem State.cond_deliver (s : State) (groups : List (List Offer)) : (s.deliver groups).cond = s.cond := by
  funext c
  cases c <;> rfl

end

/-- Settles O13: the voltage in use and FEEDER_SOURCE_LOST by the sources' states, then what the lost feeder sources
clear, then the offers. -/
theorem intakeUpdateAtARelease : Obligations.IntakeUpdateAtARelease := by
  refine ⟨fun s set => ?conditions, fun s set n => ?cleared, fun s set => ?offers⟩
  case conditions =>
    intro t active
    have takes {role : Role} (voltage : role ≠ .feeder) :
        active role ↔ roleActive s.bank t.intake.sources role = true := (roleActive_iff _ _ voltage).symm
    have inUse : t.intake.voltage = selectVoltage s.bank t.intake.sources := by
      simp [t, State.intakeRelease, Intake.withSources]
    have lost : t.intake.feederLost = anyFeederLost s.bank t.intake.sources := by
      simp [t, State.intakeRelease, Intake.withSources]
    rw [takes (role := .voltageMain) (by decide), takes (role := .voltageStandby) (by decide), inUse, selectVoltage,
      lost, anyFeederLost_iff]
    refine ⟨fun main => if_pos main, fun main standby => ?_, fun main standby => ?_, Iff.rfl⟩
    · rw [if_neg main, if_pos standby]
    · rw [if_neg main, if_neg standby]
  case cleared =>
    intro t loses
    have member : loses ↔ n ∈ lostFeeders s.bank s.intake.sources t.intake.sources := (mem_lostFeeders _ _ _ n).symm
    have sources : t.intake.sources = nextSources s.bank set s.intake.sources := by
      simp [t, State.intakeRelease, Intake.withSources]
    have window : t.transform.windows[n] =
        if loses then Window.cleared s.transform.length else s.transform.windows[n] := by
      refine (State.clearWindows_window _ n).trans (ite_congr ?_ (fun _ => rfl) fun _ => rfl)
      rw [member, sources]
    have arc : t.supervision.arcs[n] = if loses then .dark else s.supervision.arcs[n] := by
      refine (darken_getElem _ _ n).trans (ite_congr ?_ (fun _ => rfl) fun _ => rfl)
      rw [member, sources]
    rw [window, arc]
    exact ⟨fun lost => ⟨if_pos lost, if_pos lost⟩, fun kept => ⟨if_neg kept, if_neg kept⟩⟩
  case offers =>
    intro t cycle count source arc change
    refine ⟨?_, State.clearWindows_length _, ?_⟩
    · simp [t, State.intakeRelease, Intake.withSources]
    · have sources : t.intake.sources = nextSources s.bank set s.intake.sources := by
        simp [t, State.intakeRelease, Intake.withSources]
      have conds : t.cond = (s.intakeUpdated set).cond := State.cond_deliver _ _
      have intakeOffers : sourceOffers s.intake.sources t.intake.sources cycle count
          ++ changeOffers intakeConditions s t cycle count =
            sourceIndices.flatMap source ++ change .voltageLost ++ change .standbyInUse
              ++ change .feederSourceLost := by
        rw [sourceOffers_eq, intakeConditions, changeOffers_cons, changeOffers_cons, changeOffers_cons,
          changeOffers_nil, List.append_nil, List.append_assoc, List.append_assoc]
      have arcOffers : ((lostFeeders s.bank s.intake.sources t.intake.sources).flatMap fun n =>
          darkOffers s.bank s.supervision.arcs n cycle count) = sourceIndices.flatMap arc := by
        rw [lostFeeders, flatMap_filter_map]
        refine List.flatMap_congr fun k _ => ?_
        have lost : ((s.bank.source k).enabled && (s.bank.source k).role == .feeder
            && s.intake.sources[k].state != .lost && t.intake.sources[k].state == .lost) = true ↔
              (s.bank.source k).enabled = true ∧ (s.bank.source k).role = .feeder ∧ s.intake.sources[k].state ≠ .lost
                ∧ t.intake.sources[k].state = .lost := by
          simp only [Bool.and_eq_true, beq_iff_eq, bne_iff_ne, and_assoc]
        simp only [arc, darkOffers, lost, ← ite_and, and_assoc]
      have updated : ({ s with
          intake := t.intake
          transform := t.transform
          supervision := { s.supervision with arcs := t.supervision.arcs } } : State) = s.intakeUpdated set := by
        have intake : t.intake = s.intake.withSources s.bank (nextSources s.bank set s.intake.sources) := by
          simp [t, State.intakeRelease]
        rw [State.intakeUpdated, State.clearWindows_eq, intake]
        rfl
      rw [← intakeOffers, ← arcOffers, changeOffers, conds, sources, updated]
      rfl

end Sys2Proof.Machine

/-! A swap completion in every block (R15, R30, R51, R67, R90, R126, R127, R139, R142, R147). -/

namespace Sys2Proof.Machine

section
variable {s : State} {d : Word} {old new : Bank}

/-! ### The blocks one by one -/

theorem SourceRecord.restarts_eq_false_iff (p q : SourceRecord) :
    p.restarts q = false ↔ p.ident = q.ident ∧ p.role = q.role ∧ p.feeder = q.feeder := by
  simp only [SourceRecord.restarts, Bool.or_eq_false_iff, bne_eq_false_iff_eq, and_assoc]

/-- R15: what a swap makes of a source. -/
theorem swapStatus_eq (p q : SourceRecord) (x : SourceStatus) :
    swapStatus p q x =
      if q.enabled = false then ⟨.disabled, 0, 0⟩
      else if p.enabled = true ∧ p.ident = q.ident ∧ p.role = q.role ∧ p.feeder = q.feeder then x
      else ⟨.recovering, 0, 0⟩ := by
  have keeps : (p.enabled && !p.restarts q) = true ↔
      p.enabled = true ∧ p.ident = q.ident ∧ p.role = q.role ∧ p.feeder = q.feeder := by
    rw [Bool.and_eq_true, Bool.not_eq_true', SourceRecord.restarts_eq_false_iff]
  rw [swapStatus]
  cases enabled : q.enabled with
  | false => rfl
  | true =>
    rw [if_pos rfl, if_neg Bool.true_eq_false_eq_False]
    exact ite_congr (propext keeps) (fun _ => rfl) fun _ => rfl

theorem frequencyChanged_iff (old new : Bank) :
    frequencyChanged old new = true ↔ old.param .nominalFrequency ≠ new.param .nominalFrequency := bne_iff_ne

/-- R67: what a feeder's window is fed from, as its two banks give it. -/
theorem assignment_eq_iff (old new : Bank) (n : Fin 6) :
    assignment old n = assignment new n ↔
      (∀ k, old.feederSource n = some k ↔ new.feederSource n = some k)
        ∧ ∀ k, new.feederSource n = some k → (old.source k).ident = (new.source k).ident
            ∧ (old.source k).gain = (new.source k).gain ∧ (old.source k).shift = (new.source k).shift := by
  rw [assignment, assignment]
  cases before : old.feederSource n with
  | none =>
    cases after : new.feederSource n with
    | none => simp
    | some k => simp
  | some j =>
    cases after : new.feederSource n with
    | none => simp
    | some k =>
      simp only [Option.map_some, Option.some.injEq, Prod.mk.injEq]
      constructor
      · rintro ⟨rfl, same⟩
        refine ⟨fun _ => Iff.rfl, ?_⟩
        rintro i rfl
        exact same
      · rintro ⟨same, fields⟩
        obtain rfl := (same j).1 rfl
        exact ⟨rfl, fields _ rfl⟩

theorem windowCleared_iff (old new : Bank) (n : Fin 6) :
    windowCleared old new n = true ↔
      old.param .nominalFrequency ≠ new.param .nominalFrequency ∨ old.param .window ≠ new.param .window
        ∨ assignment old n ≠ assignment new n := by
  rw [windowCleared, Bool.or_eq_true, Bool.or_eq_true, frequencyChanged_iff, bne_iff_ne, bne_iff_ne, or_assoc]

theorem State.swapped_window (s : State) (d : Word) (n : Fin 6) :
    (s.swapped d).transform.windows[n] =
      if windowCleared s.bank (s.swapped d).bank n = true then Window.cleared (s.swapped d).bank.windowLength
      else s.transform.windows[n] := by
  rw [State.swapped_transform]
  simp only [Transform.onSwap, Fin.getElem_fin, Vector.getElem_ofFn]
  rfl

theorem mem_switchedOff (old new : Bank) (n : Fin 6) :
    n ∈ switchedOff old new ↔ (new.profile n).mode = .off ∧ (old.profile n).mode ≠ .off := by
  simp [switchedOff, mem_feederNumbers]

theorem Supervision.onSwap_arcs (old new : Bank) (v : Supervision) :
    (v.onSwap old new).arcs = darken v.arcs (switchedOff old new) := by
  rw [Supervision.onSwap]
  split <;> rfl

theorem Supervision.onSwap_termRuns (old new : Bank) (v : Supervision) :
    (v.onSwap old new).termRuns = Vector.replicate 4 0 := by
  rw [Supervision.onSwap]
  split <;> rfl

/-- R142: where quiet operation can run under the new bank, its flag and timer stay. -/
theorem Supervision.onSwap_of_runs (v : Supervision) (runs : quietCanRun new = true) :
    (v.onSwap old new).quiet = v.quiet ∧ (v.onSwap old new).quietTimer = v.quietTimer := by
  rw [Supervision.onSwap, if_pos runs]
  exact ⟨rfl, rfl⟩

theorem Supervision.onSwap_of_stopped (v : Supervision) (stopped : quietCanRun new = false) :
    (v.onSwap old new).quiet = false ∧ (v.onSwap old new).quietTimer = 0 := by
  rw [Supervision.onSwap, if_neg (by simp [stopped])]
  exact ⟨rfl, rfl⟩

theorem Tracker.onSwap_of_changed (begins : Bool) (t : Tracker) (changed : frequencyChanged old new = true) :
    t.onSwap old new begins = { t with locked := false, lockRun := 0, unlockRun := 0, integrator := 0 } := by
  rw [Tracker.onSwap, if_pos changed]
  rfl

theorem Tracker.onSwap_of_kept (begins : Bool) (t : Tracker) (kept : frequencyChanged old new = false) :
    t.onSwap old new begins =
      if begins = true then { t with locked := false, lockRun := 0, unlockRun := 0 } else t := by
  rw [Tracker.onSwap, if_neg (by simp [kept])]
  rfl

theorem State.swapped_cycle (s : State) (d : Word) : (s.swapped d).tracker.cycle = s.tracker.cycle := by
  rw [State.swapped_tracker, Tracker.onSwap]
  split
  next => rfl
  next => split <;> rfl

theorem State.swapped_lastReleased (s : State) (d : Word) :
    (s.swapped d).ring.lastReleased = s.ring.lastReleased := by
  rw [State.swapped_ring, Ring.onSwap]
  split <;> rfl

/-! ### The offers of a swap (R178, log 1, log 27) -/

theorem State.offer_record (s : State) (body : EventBody) :
    s.offer [.record ⟨body, s.tracker.cycle, s.ring.lastReleased⟩] = s.recorded body :=
  s.record_eq_recorded body

/-- Log 27: the table store's change enters before its SWAP record. -/
theorem State.swapTables_eq (s : State) (d : Word) :
    s.swapTables d =
      State.recorded ((s.swapped d).noteChange .tableFault s.store.tableFault false) (.swap s.store.shadowNumber) := by
  rw [State.swapTables, swapTableOffers, changeOffers_cons, changeOffers_nil, List.append_nil,
    ← State.swapped_cycle s d, ← State.swapped_lastReleased s d, State.offer_changed_append]
  refine Eq.trans (congrArg (State.offer _) ?_) (State.offer_record _ _)
  rw [State.noteChange_frame]
  rfl

theorem swapSupervisionOffers_eq (before after : State) (cycle : Nat) (set : Option Nat) :
    swapSupervisionOffers before after cycle set =
      (feederNumbers.flatMap fun n =>
          if (after.bank.profile n).mode = .off ∧ (before.bank.profile n).mode ≠ .off
              ∧ (before.supervision.arcs[n] = .burning ∨ before.supervision.arcs[n] = .pendingOff)
              ∧ (before.bank.profile n).reportArcs = true then
            [.record ⟨.arc n .dark, cycle, set⟩]
          else [])
        ++ changed .quiet before.supervision.quiet after.supervision.quiet cycle set := by
  rw [swapSupervisionOffers, switchedOff, quietOffers_eq_changed]
  refine congrArg (· ++ _) ?_
  have listed := flatMap_filter_map
    (fun n => (after.bank.profile n).mode == .off && (before.bank.profile n).mode != .off) id
    (fun n => darkOffers before.bank before.supervision.arcs n cycle set) feederNumbers
  rw [List.map_id] at listed
  rw [listed]
  refine List.flatMap_congr fun n _ => ?_
  simp only [darkOffers, Bool.and_eq_true, beq_iff_eq, bne_iff_ne, ← ite_and, and_assoc, id]

theorem swapIntakeOffers_eq (before after : State) (cycle : Nat) (set : Option Nat) :
    swapIntakeOffers before after cycle set =
      (sourceIndices.flatMap fun k =>
          if before.intake.sources[k].state = after.intake.sources[k].state then []
          else [.record ⟨.source k after.intake.sources[k].state, cycle, set⟩])
        ++ changed .voltageLost (before.cond .voltageLost) (after.cond .voltageLost) cycle set
        ++ changed .standbyInUse (before.cond .standbyInUse) (after.cond .standbyInUse) cycle set
        ++ changed .feederSourceLost (before.cond .feederSourceLost) (after.cond .feederSourceLost) cycle set := by
  rw [swapIntakeOffers, sourceOffers_eq, intakeConditions, changeOffers_cons, changeOffers_cons, changeOffers_cons,
    changeOffers_nil, List.append_nil, List.append_assoc, List.append_assoc]

end

/-- Settles O37: each block by its own lemma above, then the offers. -/
theorem swapCompletionReachesEveryBlock : Obligations.SwapCompletionReachesEveryBlock := by
  intro s d old t new cycle count change source arc freq assigned
  have assigns (b : Bank) (n : Fin 6) (k : Fin 8) : assigned b n k ↔ b.feederSource n = some k :=
    (b.feederSource_eq_some_iff n k).symm
  have window := State.swapped_window s d
  refine ⟨State.swapTables_eq s d, ?store, ?bank, ?sources, ?counters, ?changed, ?kept, ?length, ?cleared, ?keptWindow,
    ?arcs, ?termRuns, ?trip, ?stopped, ?runs, ?composer, ?linkC, ?engine, ?health, ?events, ?intakeOffers,
    ?supervisionOffers, ?offers⟩
  case store => rfl
  case bank => exact TableStore.swap_activeBank d s.store
  case sources =>
    intro k
    rw [← swapStatus_eq]
    simp [t, old, new, swapSources, Intake.withSources]
  case counters => rfl
  case changed =>
    intro changes
    have moved := (frequencyChanged_iff old new).2 changes
    exact ⟨if_pos moved, Tracker.onSwap_of_changed _ _ moved⟩
  case kept =>
    intro same
    have unmoved := (frequencyChanged_iff old new).not.2 same
    refine ⟨if_neg unmoved, (Tracker.onSwap_of_kept _ _ (Bool.eq_false_iff.2 unmoved)).trans ?_⟩
    refine ite_congr (propext ?_) (fun _ => rfl) fun _ => rfl
    rw [Bool.and_eq_true, bne_iff_ne, beq_iff_eq]
    rfl
  case length => rfl
  case cleared =>
    intro n cleared
    refine (window n).trans (if_pos ((windowCleared_iff old new n).2 ?_))
    refine cleared.imp_right fun cleared => cleared.imp_right fun moved same => ?_
    obtain ⟨feeders, fields⟩ := (assignment_eq_iff old new n).1 same
    simp only [assigns] at moved
    obtain ⟨k, before, after⟩ | ⟨k, before, after⟩ | ⟨k, before, after, differs⟩ := moved
    · exact after ((feeders k).1 before)
    · exact before ((feeders k).2 after)
    · obtain ⟨ident, gain, shift⟩ := fields k after
      obtain other | other | other := differs
      · exact other ident
      · exact other gain
      · exact other shift
  case keptWindow =>
    intro n kept length same fields
    simp only [assigns] at same fields
    refine (window n).trans (if_neg ((windowCleared_iff old new n).not.2 ?_))
    rintro (moved | other | other)
    · exact kept moved
    · exact other length
    · exact other ((assignment_eq_iff old new n).2 ⟨same, fields⟩)
  case arcs =>
    intro n
    have arcs : t.supervision.arcs = darken s.supervision.arcs (switchedOff old new) := Supervision.onSwap_arcs _ _ _
    rw [arcs, darken_getElem]
    exact ite_congr (propext (mem_switchedOff old new n)) (fun _ => rfl) fun _ => rfl
  case termRuns => exact Supervision.onSwap_termRuns _ _ _
  case trip => exact Supervision.onSwap_trip _ _ _
  case stopped =>
    intro stops
    refine Supervision.onSwap_of_stopped _ (Bool.eq_false_iff.2 ((quietCanRun_iff new).not.2 ?_))
    rintro ⟨cycles, n, wakes⟩
    obtain zero | none := stops
    · exact cycles zero
    · exact Bool.false_ne_true ((none n).symm.trans wakes)
  case runs => exact fun cycles wakes => Supervision.onSwap_of_runs _ ((quietCanRun_iff new).2 ⟨cycles, wakes⟩)
  case composer => exact State.swapped_composer s d
  case linkC => exact State.swapped_linkC s d
  case engine => exact State.swapped_engine s d
  case health => exact State.swapped_health s d
  case events => exact State.swapped_events s d
  case intakeOffers => exact swapIntakeOffers_eq s t cycle count
  case supervisionOffers => exact swapSupervisionOffers_eq s t cycle count
  case offers =>
    rw [State.swapAtOnce, swapReactionOffers, changeOffers_cons, changeOffers_nil, List.append_nil]

end Sys2Proof.Machine

/-! The end of a cycle and its boundary, and the audit (R82, R126 to R129, log 2, log 30). -/

namespace Sys2Proof.Machine

section
variable {s : State}

/-! ### The figures and the roll -/

theorem Transform.arcFigures_eq (t : Transform) :
    t.arcFigures =
      { magnitude := Vector.ofFn fun n => min 32767 (magnitude (t.averages n).idPos (t.averages n).iqPos)
        full := Vector.ofFn fun n => decide ((t.windows[n]).fill = t.length) } := rfl

/-- R82, log 15: Q_CLAMPED's change comes before N_SCALED's. -/
theorem State.rollOffers_eq :
    s.rollOffers =
      changed .qClamped s.composer.qClamped s.composer.qSeen s.tracker.cycle s.ring.lastReleased
        ++ changed .nScaled s.composer.nScaled s.composer.nSeen s.tracker.cycle s.ring.lastReleased := by
  rw [State.rollOffers, changeOffers_cons, changeOffers_cons, changeOffers_nil, List.append_nil]
  rfl

/-! ### The boundary with a swap (R126, log 2) -/

/-- What a swap offers does not hang on the event unit or on the free choices. -/
theorem State.boundarySwap_of_events (e : EventUnit) (p : Nat) (d : Word) (fig : ArcFigures) (roll : List Offer) :
    (s.setEvents e p).boundarySwap d fig roll =
      ((s.setEvents e p).swapTables d).boundaryBlocks fig
        (swapSupervisionOffers s (s.swapped d) s.tracker.cycle s.ring.lastReleased)
        [swapIntakeOffers s (s.swapped d) s.tracker.cycle s.ring.lastReleased,
          changed .unlocked (!s.tracker.locked) (!(s.swapped d).tracker.locked) s.tracker.cycle s.ring.lastReleased,
          roll] := by
  have swapped : (s.setEvents e p).swapped d = (s.swapped d).setEvents e p := rfl
  have conds (t : State) : (t.setEvents e p).cond = t.cond := by
    funext c
    cases c <;> rfl
  rw [State.boundarySwap, swapped, swapIntakeOffers_eq, swapSupervisionOffers_eq, swapIntakeOffers_eq,
    swapSupervisionOffers_eq, changeOffers_cons, changeOffers_nil, List.append_nil, conds, conds]
  rfl

theorem State.takeBoundary_of_roll {d : Word} (fig : ArcFigures) (pending : s.store.pendingSwap = some d)
    (roll : s.rollOffers ≠ []) :
    s.takeBoundary fig = (s.rollFlags.setEvents s.events (s.picks + 1)).boundarySwap d fig s.rollOffers
      ∨ s.takeBoundary fig =
          ((s.rollFlags.setEvents s.events (s.picks + 1)).offer s.rollOffers).boundarySwap d fig [] := by
  rw [State.takeBoundary, pending]
  simp only
  rw [if_neg (by simpa using roll)]
  split
  next => exact .inl rfl
  next => exact .inr rfl

/-! ### The audit (R128, R129) -/

section
variable {t : TableStore} {cycles : Nat}

theorem TableStore.auditStep_of_lt (short : t.auditCounter + 1 < cycles) :
    t.auditStep cycles = { t with auditCounter := t.auditCounter + 1 } := by
  have count : min cycles (t.auditCounter + 1) = t.auditCounter + 1 := by omega
  rw [TableStore.auditStep, count, if_neg (by omega)]

theorem TableStore.auditStep_of_le (reached : cycles ≤ t.auditCounter + 1) :
    t.auditStep cycles =
      if t.auditInFlight then { t with auditCounter := cycles }
      else { t with auditInFlight := true, auditCounter := 0 } := by
  have count : min cycles (t.auditCounter + 1) = cycles := by omega
  rw [TableStore.auditStep, count, if_pos (Nat.le_refl _)]

end

/-- R185: at a boundary the health block alone counts. -/
theorem State.healthBoundary_eq (s : State) : s.healthBoundary = s.setHealth s.healthBoundary.health := by
  rw [State.healthBoundary, State.setHealth_health]

theorem State.setHealth_setStore (s : State) (h : Health) (v : Supervision) (x : TableStore) :
    ((s.setHealth h).setSupervision v).setStore x = { s with health := h, supervision := v, store := x } := rfl

theorem State.healthBoundary_setStore (s : State) (v : Supervision) (x : TableStore) :
    (s.healthBoundary.setSupervision v).setStore x =
      { s with health := s.healthBoundary.health, supervision := v, store := x } := by
  have frame := State.setHealth_setStore s s.healthBoundary.health v x
  rwa [← s.healthBoundary_eq] at frame

theorem State.noteChange_same (s : State) (c : Condition) (was : Bool) : s.noteChange c was was = s := if_pos rfl

theorem State.completeAudit_eq (flight : s.store.auditInFlight = true) :
    s.completeAudit =
      State.noteChange
        { s with
          store :=
            { s.store with
              auditInFlight := false
              tableFault := s.store.tableFault || s.bank.digest != s.store.recorded } }
        .tableFault s.store.tableFault (s.store.tableFault || s.bank.digest != s.store.recorded) := by
  rw [State.completeAudit, if_pos flight, State.offerChanges_single]
  rfl

end

/-- Settles O36: the end of a cycle, the boundary with and without a swap, what follows in order, and the audit. -/
theorem auditsCountAndCompare : Obligations.AuditsCountAndCompare := by
  refine ⟨fun s closed => rfl, fun c fig => ?boundary, fun s fig earlier others => ?blocks,
    fun s running flight => ?audit⟩
  case boundary =>
    intro cycle count rolled roll
    have offers : c.rollOffers = roll := State.rollOffers_eq
    refine ⟨fun idle => ?_, fun d pending => ?_⟩
    · rw [State.takeBoundary_of_none c fig idle, offers]
      rfl
    intro after swap chosen
    have swaps (e : EventUnit) (p : Nat) (roll : List Offer) :
        (rolled.setEvents e p).boundarySwap d fig roll = swap (rolled.setEvents e p) roll :=
      State.boundarySwap_of_events (s := rolled) e p d fig roll
    refine ⟨fun unchanged => ?_, fun changes => ?_⟩
    · rw [State.takeBoundary_of_some c d fig pending (offers.trans unchanged)]
      exact swaps rolled.events rolled.picks []
    · have offered : chosen.offer roll = rolled.setEvents (chosen.offer roll).events (chosen.offer roll).picks := by
        rw [State.offer_eq]
        rfl
      have taken := State.takeBoundary_of_roll fig pending (offers.trans_ne changes)
      have started : c.rollFlags.setEvents c.events (c.picks + 1) = chosen := rfl
      have before := swaps chosen.events chosen.picks roll
      have after := swaps (chosen.offer roll).events (chosen.offer roll).picks []
      have same : rolled.setEvents chosen.events chosen.picks = chosen := rfl
      rw [same] at before
      rw [← offered] at after
      rwa [offers, started, before, after] at taken
  case blocks =>
    intro cycles counted arcs trips t
    have store : t.store = s.store.auditStep cycles := State.boundaryBlocks_store s fig earlier others
    refine ⟨?_, fun short => ?_, fun reached idle => ?_, fun reached flight => ?_⟩
    · rw [store]
      have blocks := State.boundaryBlocks_eq s fig earlier others
      rw [State.healthBoundary_setStore] at blocks
      exact blocks
    · rw [store, TableStore.auditStep_of_lt short]
    · rw [store, TableStore.auditStep_of_le reached, if_neg (by simp [idle])]
    · rw [store, TableStore.auditStep_of_le reached, if_pos flight]
  case audit =>
    have completes : exec .auditCompletion s = .next s.completeAudit :=
      congrArg Host.Outcome.next (State.whenRunning_of_running _ running)
    rw [completes, State.completeAudit_eq flight]
    refine ⟨fun differs => ?_, fun agrees => ?_⟩
    · rw [bne_iff_ne.2 differs, Bool.or_true]
    · rw [bne_eq_false_iff_eq.2 agrees, Bool.or_false, State.noteChange_same]

end Sys2Proof.Machine

/-! The words in which several items stand: the status record, the response frame and the event record (R186, R193,
R195). -/

namespace Sys2Proof.Machine

/-! ### A word as a number (R190) -/

theorem wordOf_toNat_mod (n : Nat) : (wordOf n).toNat = n % 65536 := BitVec.toNat_ofNat n 16

theorem wordOf_add (m n : Nat) : wordOf m + wordOf n = wordOf (m + n) := (BitVec.ofNat_add m n).symm

theorem bitWord_eq_wordOf (n : Nat) (b : Bool) : bitWord n b = wordOf (b.toNat * 2 ^ n) := by
  cases b
  · rw [Bool.toNat_false, Nat.zero_mul]
    rfl
  · rw [Bool.toNat_true, Nat.one_mul]
    rfl

theorem bitField_wordOf (lo len n : Nat) : bitField lo len (wordOf n) = n % 65536 / 2 ^ lo % 2 ^ len := by
  rw [bitField, wordOf_toNat_mod]

theorem bitAt_wordOf {lo n : Nat} {b : Bool} (bit : n % 65536 / 2 ^ lo % 2 = b.toNat) : bitAt lo (wordOf n) = b := by
  rw [bitAt, bitField_wordOf]
  cases b with
  | false => exact beq_false_of_ne (by rw [Nat.pow_one, bit]; decide)
  | true => exact beq_iff_eq.2 bit

theorem getD_behind (front back : List Word) {k : Nat} (length : front.length = k) (n : Nat) :
    (front ++ back).getD (k + n) 0 = back.getD n 0 := by
  rw [List.getD_append_right _ _ _ _ (by omega), length, Nat.add_sub_cancel_left]

/-! ### Codes packed side by side -/

theorem packCodes_lt {bits : Nat} {codes : List Nat} (small : ∀ c ∈ codes, c < 2 ^ bits) :
    packCodes bits codes < 2 ^ (bits * codes.length) := by
  induction codes with
  | nil => exact Nat.one_pos
  | cons c rest ih =>
    have first := small c List.mem_cons_self
    have later := ih fun d mem => small d (List.mem_cons_of_mem c mem)
    rw [List.length_cons, Nat.mul_succ, Nat.pow_add]
    have packed : packCodes bits (c :: rest) = c + packCodes bits rest * 2 ^ bits := rfl
    have room : (packCodes bits rest + 1) * 2 ^ bits ≤ 2 ^ (bits * rest.length) * 2 ^ bits :=
      Nat.mul_le_mul_right _ later
    rw [Nat.succ_mul] at room
    omega

theorem packCodes_field {bits : Nat} {codes : List Nat} (small : ∀ c ∈ codes, c < 2 ^ bits) {k : Nat}
    (inside : k < codes.length) : packCodes bits codes / 2 ^ (bits * k) % 2 ^ bits = codes[k] := by
  induction codes generalizing k with
  | nil => simp at inside
  | cons c rest ih =>
    have first := small c List.mem_cons_self
    have packed : packCodes bits (c :: rest) = c + packCodes bits rest * 2 ^ bits := rfl
    rw [packed]
    cases k with
    | zero =>
      rw [Nat.mul_zero, Nat.pow_zero, Nat.div_one, Nat.add_mul_mod_self_right, Nat.mod_eq_of_lt first]
      rfl
    | succ k =>
      have later := ih (k := k) (fun d mem => small d (List.mem_cons_of_mem c mem)) (Nat.lt_of_succ_lt_succ inside)
      rw [Nat.mul_succ, Nat.pow_add, Nat.mul_comm (2 ^ (bits * k)), ← Nat.div_div_eq_div_mul,
        Nat.add_mul_div_right _ _ (Nat.two_pow_pos bits), Nat.div_eq_of_lt first, Nat.zero_add, later]
      rfl

/-- A field of a word of packed codes is the code at its place. -/
theorem bitField_packCodes {bits : Nat} {codes : List Nat} (small : ∀ c ∈ codes, c < 2 ^ bits)
    (fits : bits * codes.length ≤ 16) {k : Nat} (inside : k < codes.length) :
    bitField (bits * k) bits (wordOf (packCodes bits codes)) = codes[k] := by
  have range : packCodes bits codes < 65536 :=
    (packCodes_lt small).trans_le (Nat.pow_le_pow_right (by decide) fits)
  rw [bitField_wordOf, Nat.mod_eq_of_lt range, packCodes_field small inside]

theorem SourceState.code_lt (x : SourceState) : x.code < 4 := by cases x <;> decide

theorem ArcState.code_lt (x : ArcState) : x.code < 4 := by cases x <;> decide

theorem Protection.code_lt (x : Protection) : x.code < 4 := by cases x <;> decide

theorem VoltageInUse.code_lt (x : VoltageInUse) : x.code < 4 := by cases x <;> decide

theorem RefSource.code_le (x : RefSource) : x.code ≤ 5 := by cases x <;> decide

theorem Condition.all_getElem? (x : Condition) : Condition.all[x.code - 1]? = some x := by cases x <;> rfl

/-! ### The status record -/

section
variable {s : State}

/-- The words before the saturation counters. -/
def State.statusHead (s : State) : List Word :=
  [wordOf ((s.composer.lastSource.map RefSource.code).getD 0),
    wordOf (s.engine.protection.code + s.engine.attempts % 8 * 4) + bitWord 5 s.engine.expiry,
    wordOf s.store.active.val + bitWord 1 s.store.pendingSwap.isSome + bitWord 2 s.store.auditInFlight,
    bitWord 0 s.tracker.locked + wordOf (s.intake.voltage.code * 2),
    wordOf (packCodes 2 (s.intake.sources.toList.map fun x => x.state.code)),
    wordOf (packCodes 2 (s.supervision.arcs.toList.map ArcState.code)),
    wordOf (packCodes 1 (Condition.all.map fun c => if s.cond c then 1 else 0)),
    bitWord 0 s.supervision.trip + bitWord 1 s.supervision.quiet,
    wordOf s.composer.injRemaining,
    wordOf s.intake.counters.malformed,
    wordOf s.intake.counters.foreign,
    wordOf s.intake.counters.duplicate,
    wordOf s.intake.counters.late,
    wordOf s.intake.counters.held,
    wordOf s.intake.counters.resync]

/-- The words behind the saturation counters. -/
def State.statusTail (s : State) : List Word :=
  [wordOf s.engine.overrun, wordOf (s.events.queue.length % 32) + bitWord 15 s.events.overflow,
    wordOf s.linkC.capability, wordOf s.linkC.faultCode, wordOf s.engine.monitor.code, wordOf s.tracker.cycle]

theorem State.statusRecord_eq :
    s.statusRecord = s.statusHead ++ (s.intake.counters.saturation.toList.map wordOf ++ s.statusTail) := by
  rw [State.statusRecord, List.append_assoc]
  rfl

theorem State.statusRecord_length : s.statusRecord.length = 29 := by
  rw [State.statusRecord_eq, List.length_append, List.length_append, List.length_map, Vector.length_toList]
  rfl

theorem State.statusRecord_head {n : Nat} (place : n < 15) : s.statusRecord.getD n 0 = s.statusHead.getD n 0 := by
  rw [State.statusRecord_eq, List.getD_append _ _ _ _ place]

theorem State.statusRecord_saturation (k : Fin 8) :
    s.statusRecord.getD (15 + k) 0 = wordOf s.intake.counters.saturation[k] := by
  have inside : k.val < (s.intake.counters.saturation.toList.map wordOf).length := by simp
  rw [State.statusRecord_eq, getD_behind _ _ (k := 15) rfl, List.getD_append _ _ _ _ inside,
    List.getD_eq_getElem _ _ inside, List.getElem_map, Vector.getElem_toList]
  rfl

theorem State.statusRecord_tail (n : Nat) : s.statusRecord.getD (23 + n) 0 = s.statusTail.getD n 0 := by
  have middle : (s.intake.counters.saturation.toList.map wordOf).length = 8 := by simp
  rw [State.statusRecord_eq, show 23 + n = 15 + (8 + n) by omega, getD_behind _ _ (k := 15) rfl, getD_behind _ _ middle]

/-! ### The items of each word of the status record -/

theorem State.engineWord_items (attempts : s.engine.attempts ≤ 5) :
    let w := wordOf (s.engine.protection.code + s.engine.attempts % 8 * 4) + bitWord 5 s.engine.expiry
    bitField 0 2 w = s.engine.protection.code ∧ bitField 2 3 w = s.engine.attempts
      ∧ bitAt 5 w = decide (s.engine.attempts = 5) := by
  have code := s.engine.protection.code_lt
  have expiry : s.engine.expiry = decide (s.engine.attempts = 5) := rfl
  have flag := Bool.toNat_lt s.engine.expiry
  rw [bitWord_eq_wordOf, wordOf_add, ← expiry]
  refine ⟨?_, ?_, bitAt_wordOf ?_⟩
  · rw [bitField_wordOf]
    omega
  · rw [bitField_wordOf]
    omega
  · omega

theorem State.storeWord_items :
    let w := wordOf s.store.active.val + bitWord 1 s.store.pendingSwap.isSome + bitWord 2 s.store.auditInFlight
    bitField 0 1 w = s.store.active.val ∧ bitAt 1 w = s.store.pendingSwap.isSome
      ∧ bitAt 2 w = s.store.auditInFlight := by
  have bank := s.store.active.isLt
  have pending := Bool.toNat_lt s.store.pendingSwap.isSome
  have flight := Bool.toNat_lt s.store.auditInFlight
  rw [bitWord_eq_wordOf, bitWord_eq_wordOf, wordOf_add, wordOf_add]
  refine ⟨?_, bitAt_wordOf ?_, bitAt_wordOf ?_⟩
  · rw [bitField_wordOf]
    omega
  · omega
  · omega

theorem State.trackerWord_items :
    let w := bitWord 0 s.tracker.locked + wordOf (s.intake.voltage.code * 2)
    bitAt 0 w = s.tracker.locked ∧ bitField 1 2 w = s.intake.voltage.code := by
  have code := s.intake.voltage.code_lt
  have flag := Bool.toNat_lt s.tracker.locked
  rw [bitWord_eq_wordOf, wordOf_add]
  refine ⟨bitAt_wordOf ?_, ?_⟩
  · omega
  · rw [bitField_wordOf]
    omega

theorem State.sourcesWord_item (k : Fin 8) :
    bitField (2 * k) 2 (wordOf (packCodes 2 (s.intake.sources.toList.map fun x => x.state.code))) =
      s.intake.sources[k].state.code := by
  have inside : k.val < (s.intake.sources.toList.map fun x => x.state.code).length := by simp
  rw [bitField_packCodes ?small (by simp) inside, List.getElem_map, Vector.getElem_toList]
  · rfl
  case small =>
    intro c mem
    obtain ⟨x, _, rfl⟩ := List.mem_map.1 mem
    exact x.state.code_lt

theorem State.arcsWord_item (n : Fin 6) :
    bitField (2 * n) 2 (wordOf (packCodes 2 (s.supervision.arcs.toList.map ArcState.code))) =
      s.supervision.arcs[n].code := by
  have inside : n.val < (s.supervision.arcs.toList.map ArcState.code).length := by simp
  rw [bitField_packCodes ?small (by simp) inside, List.getElem_map, Vector.getElem_toList]
  · rfl
  case small =>
    intro c mem
    obtain ⟨x, _, rfl⟩ := List.mem_map.1 mem
    exact x.code_lt

theorem State.conditionsWord_item (x : Condition) :
    bitAt (x.code - 1) (wordOf (packCodes 1 (Condition.all.map fun c => if s.cond c then 1 else 0))) = s.cond x := by
  obtain ⟨place, named⟩ := List.getElem?_eq_some_iff.1 x.all_getElem?
  have inside : x.code - 1 < (Condition.all.map fun c => if s.cond c then 1 else 0).length := by
    rwa [List.length_map]
  have field := bitField_packCodes (bits := 1) (codes := Condition.all.map fun c => if s.cond c then 1 else 0) ?small
    (by simp [Condition.all]) inside
  · rw [List.getElem_map, named, Nat.one_mul] at field
    rw [bitAt, field]
    cases s.cond x <;> rfl
  case small =>
    intro c mem
    obtain ⟨y, _, rfl⟩ := List.mem_map.1 mem
    split <;> decide

theorem State.supervisionWord_items :
    let w := bitWord 0 s.supervision.trip + bitWord 1 s.supervision.quiet
    bitAt 0 w = s.supervision.trip ∧ bitAt 1 w = s.supervision.quiet := by
  have trip := Bool.toNat_lt s.supervision.trip
  have quiet := Bool.toNat_lt s.supervision.quiet
  rw [bitWord_eq_wordOf, bitWord_eq_wordOf, wordOf_add]
  exact ⟨bitAt_wordOf (by omega), bitAt_wordOf (by omega)⟩

theorem State.eventsWord_items (few : s.events.queue.length ≤ 16) :
    let w := wordOf (s.events.queue.length % 32) + bitWord 15 s.events.overflow
    bitField 0 5 w = s.events.queue.length ∧ bitAt 15 w = s.events.overflow := by
  have overflow := Bool.toNat_lt s.events.overflow
  rw [bitWord_eq_wordOf, wordOf_add]
  refine ⟨?_, bitAt_wordOf (by omega)⟩
  rw [bitField_wordOf]
  omega

theorem State.lastSource_code_le : (s.composer.lastSource.map RefSource.code).getD 0 ≤ 5 := by
  cases s.composer.lastSource with
  | none => exact Nat.zero_le _
  | some x => exact x.code_le

/-! ### The response frame -/

theorem sealFrame_eq (kind : Word) (fields : List Word) :
    sealFrame kind fields =
      kind :: wordOf (fields.length + 3)
        :: (fields ++ [checkWord (kind :: wordOf (fields.length + 3) :: fields)]) := rfl

theorem sealFrame_dropLast (kind : Word) (fields : List Word) :
    (sealFrame kind fields).dropLast = kind :: wordOf (fields.length + 3) :: fields :=
  List.dropLast_concat

/-- The fields of a response, behind its kind and length. -/
def State.responseFields (s : State) (r : Request) (p : Reply) : List Word :=
  [wordOf (r.address.toNat + r.tag.toNat * 256), r.code, wordOf p.outcome.code, s.stateWord, wordOf p.next,
    wordOf p.remaining] ++ p.payload

theorem State.responseFrame_eq (r : Request) (p : Reply) :
    s.responseFrame r p =
      [0x0A03, wordOf ((s.responseFields r p).length + 3), wordOf (r.address.toNat + r.tag.toNat * 256), r.code,
          wordOf p.outcome.code, s.stateWord, wordOf p.next, wordOf p.remaining]
        ++ (p.payload ++ [checkWord (s.responseFrame r p).dropLast]) := by
  have body : (s.responseFrame r p).dropLast = _ := sealFrame_dropLast 0x0A03 (s.responseFields r p)
  rw [body]
  rfl

theorem State.responseFrame_length (r : Request) (p : Reply) :
    (s.responseFrame r p).length = 9 + p.payload.length := by
  have sealed : (s.responseFrame r p).length = (s.responseFields r p).length + 3 := sealFrame_length _ _
  have fields : (s.responseFields r p).length = 6 + p.payload.length := by
    rw [State.responseFields, List.length_append]
    rfl
  omega

theorem State.responseFrame_check (r : Request) (p : Reply) :
    (s.responseFrame r p).getD (8 + p.payload.length) 0 = checkWord (s.responseFrame r p).dropLast := by
  have whole := State.responseFrame_eq (s := s) r p
  generalize checkWord (s.responseFrame r p).dropLast = check at *
  rw [whole, getD_behind _ _ (k := 8) rfl]
  exact getD_behind p.payload _ rfl 0

theorem State.addressWord_items (r : Request) :
    let w := wordOf (r.address.toNat + r.tag.toNat * 256)
    bitField 0 6 w = r.address.toNat ∧ bitField 6 2 w = 0 ∧ bitField 8 8 w = r.tag.toNat := by
  have address := r.address.isLt
  have tag := r.tag.isLt
  refine ⟨?_, ?_, ?_⟩ <;> rw [bitField_wordOf] <;> omega

theorem State.stateWord_items :
    bitField 0 2 s.stateWord = s.engine.protection.code ∧ bitAt 2 s.stateWord = decide (s.engine.attempts = 5)
      ∧ bitAt 3 s.stateWord = decide (s.events.queue ≠ []) ∧ bitField 4 12 s.stateWord = 0 := by
  have code := s.engine.protection.code_lt
  have expiry : s.engine.expiry = decide (s.engine.attempts = 5) := rfl
  have attention : (!s.events.queue.isEmpty) = decide (s.events.queue ≠ []) := by cases s.events.queue <;> rfl
  have first := Bool.toNat_lt s.engine.expiry
  have second := Bool.toNat_lt (!s.events.queue.isEmpty)
  rw [State.stateWord, bitWord_eq_wordOf, bitWord_eq_wordOf, wordOf_add, wordOf_add, ← expiry, ← attention]
  refine ⟨?_, bitAt_wordOf (by omega), bitAt_wordOf (by omega), ?_⟩
  · rw [bitField_wordOf]
    omega
  · rw [bitField_wordOf]
    omega

end

/-! ### The event record -/

theorem EventBody.kind_lt (body : EventBody) : body.codes.1 < 16 := by cases body <;> simp [EventBody.codes]

theorem EventRecord.firstWord_items (e : EventRecord) :
    let w := wordOf e.body.codes.1 + bitWord 15 e.body.codes.2.1.isSome + bitWord 14 e.setCount.isSome
    bitField 0 4 w = e.body.codes.1 ∧ bitAt 15 w = e.body.codes.2.1.isSome ∧ bitField 4 10 w = 0
      ∧ bitAt 14 w = e.setCount.isSome := by
  have kind := e.body.kind_lt
  have subject := Bool.toNat_lt e.body.codes.2.1.isSome
  have count := Bool.toNat_lt e.setCount.isSome
  rw [bitWord_eq_wordOf, bitWord_eq_wordOf, wordOf_add, wordOf_add]
  refine ⟨?_, bitAt_wordOf (by omega), ?_, bitAt_wordOf (by omega)⟩
  · rw [bitField_wordOf]
    omega
  · rw [bitField_wordOf]
    omega

/-- Settles O50: each word by its items; the words of a record stand at their places. -/
theorem statusRecordHoldsEachItem : Obligations.StatusRecordHoldsEachItem := by
  refine ⟨fun s engine intake output events tracker => ?status, fun s r p => ?response, fun e => ?event⟩
  case status =>
    intro w c
    obtain ⟨_, overrun, attempts, _⟩ := engine
    obtain ⟨⟨malformed, foreign, duplicate, late, held, resync, saturation⟩, _⟩ := intake
    obtain ⟨⟨_, remaining, _⟩, ⟨capability, fault, _⟩, _⟩ := output
    have head {n : Nat} (place : n < 15) : w n = s.statusHead.getD n 0 := State.statusRecord_head place
    have tail (n : Nat) : w (23 + n) = s.statusTail.getD n 0 := State.statusRecord_tail n
    have number {n v : Nat} (place : n < 15) (word : s.statusHead.getD n 0 = wordOf v) (range : v ≤ 65535) :
        (w n).toNat = v := by
      rw [head place, word]
      exact wordOf_toNat (Nat.lt_succ_of_le range)
    have behind {n v : Nat} (word : s.statusTail.getD n 0 = wordOf v) (range : v ≤ 65535) : (w (23 + n)).toNat = v := by
      rw [tail, word]
      exact wordOf_toNat (Nat.lt_succ_of_le range)
    obtain ⟨protection, tries, expiry⟩ := State.engineWord_items attempts
    obtain ⟨active, pending, flight⟩ := s.storeWord_items
    obtain ⟨locked, voltage⟩ := s.trackerWord_items
    obtain ⟨trip, quiet⟩ := s.supervisionWord_items
    obtain ⟨queued, overflow⟩ := State.eventsWord_items events.1
    have word1 := head (n := 1) (by decide)
    have word2 := head (n := 2) (by decide)
    have word3 := head (n := 3) (by decide)
    have word4 := head (n := 4) (by decide)
    have word5 := head (n := 5) (by decide)
    have word6 := head (n := 6) (by decide)
    have word7 := head (n := 7) (by decide)
    have word24 := tail 1
    have word27 := tail 4
    rw [word1, word2, word3, word4, word5, word6, word7, word24, word27]
    refine ⟨State.statusRecord_length, number (by decide) rfl (State.lastSource_code_le.trans (by decide)), protection,
      tries, expiry, active, pending, flight, locked, voltage, State.sourcesWord_item, State.arcsWord_item,
      State.conditionsWord_item, trip, quiet, number (by decide) rfl remaining, number (by decide) rfl malformed,
      number (by decide) rfl foreign, number (by decide) rfl duplicate, number (by decide) rfl late,
      number (by decide) rfl held, number (by decide) rfl resync, fun k => ?saturation, behind (n := 0) rfl overrun,
      queued, overflow, behind (n := 2) rfl (by omega), behind (n := 3) rfl (by omega), fun strap => ?strap,
      fun q chosen => ?quantity, behind (n := 5) rfl ?cycle⟩
    case saturation =>
      have word : w (15 + k) = wordOf c.saturation[k] := State.statusRecord_saturation k
      rw [word]
      exact wordOf_toNat (Nat.lt_succ_of_le (saturation k))
    case strap =>
      have word : s.statusTail.getD 4 0 = wordOf s.engine.monitor.code := rfl
      rw [word, strap]
      rfl
    case quantity =>
      have word : s.statusTail.getD 4 0 = wordOf s.engine.monitor.code := rfl
      rw [word, chosen]
      exact wordOf_toNat (q.isLt.trans (by decide))
    case cycle =>
      obtain ⟨_, _, _, _, _, _, _, _, _, _, _, _, _, _, _, cycle, _⟩ := tracker
      omega
  case response =>
    intro frame w
    obtain ⟨address, reserved, tag⟩ := State.addressWord_items r
    obtain ⟨protection, expiry, attention, rest⟩ := s.stateWord_items
    have length : frame.length = 9 + p.payload.length := State.responseFrame_length r p
    have outcome : (w 4).toNat = p.outcome.code := wordOf_toNat (by cases p.outcome <;> decide)
    have state : bitField 0 2 (w 5) = s.engine.protection.code := protection
    refine ⟨length, rfl, (wordOf_toNat_mod _).trans ?length, address, reserved, tag, rfl, ?outcome, ?protection, expiry,
      attention, rest, wordOf_toNat_mod _, wordOf_toNat_mod _, ?payload, ?check⟩
    case length =>
      have fields : (s.responseFields r p).length + 3 = frame.length := (sealFrame_length _ _).symm
      exact congrArg (· % 65536) fields
    case outcome =>
      rw [outcome]
      cases p.outcome <;> rfl
    case protection =>
      rw [state]
      cases s.engine.protection <;> rfl
    case payload =>
      have body : frame.drop 8 = p.payload ++ [checkWord frame.dropLast] :=
        congrArg (List.drop 8) (State.responseFrame_eq r p)
      rw [body, List.dropLast_concat]
    case check =>
      exact State.responseFrame_check r p
  case event =>
    intro w holds
    obtain ⟨numbered, subjected, reserved, counted⟩ := e.firstWord_items
    have body {k : Nat} {x : Option Nat} {n : Nat} (codes : e.body.codes = (k, x, n)) : holds k x n := by
      refine ⟨numbered.trans (congrArg Prod.fst codes), subjected.trans (congrArg (fun c => c.2.1.isSome) codes),
        (wordOf_toNat_mod _).trans ?_, (wordOf_toNat_mod _).trans ?_⟩
      · rw [codes]
      · rw [codes]
    refine ⟨rfl, reserved, counted, wordOf_toNat_mod _, wordOf_toNat_mod _, ?_⟩
    obtain ⟨event, cycle, set⟩ := e
    cases event with
    | reset kind result => exact body (by cases kind <;> cases result <;> rfl)
    | link l regained => exact body (by cases l <;> rfl)
    | source k st => exact body (by cases st <;> rfl)
    | resync k n => exact body rfl
    | condition c on => exact body (by cases c <;> rfl)
    | swap bank => exact body rfl
    | arc n st => exact body (by cases st <;> rfl)
    | trip n trigger => exact body rfl
    | access n => exact body rfl

end Sys2Proof.Machine

/-! What a released set does in every block in turn, and the reference frame it sends (R35, R72 to R98). -/

namespace Sys2Proof.Machine

section
variable {s : State}

/-! ### The part of a released set each block handles -/

/-- R35, R184: the sources held while ACTIVE. -/
theorem heldActive_eq (set : ReleasedSet) (v : Vector SourceStatus 8) :
    heldActive set v =
      sourceIndices.countP fun k => (set.sources[k]).any (fun y => !y.present) && decide (v[k].state = .active) := by
  refine congrArg (List.countP · sourceIndices) (funext fun k => ?_)
  rw [ReleasedSet.isHeld]
  cases set.sources[k] with
  | none => rfl
  | some x => rfl

theorem State.noteReleased_eq (set : ReleasedSet) :
    s.noteReleased set =
      { s with
        ring := { s.ring with lastReleased := some set.count }
        health :=
          { s.health with
            raw := s.health.raw.set 1 (min 65535 (s.health.raw[1] + heldActive set s.intake.sources)) } } := rfl

/-- R42, R49: the tracker handles the set's values, then offers its changes with the set's count (log 32). -/
theorem State.track_eq (count : Nat) (voltage : Option Phases) :
    s.track count voltage =
      State.offer { s with tracker := (s.tracker.handle s.bank voltage).1 }
        (changed .sag s.tracker.sag (s.tracker.handle s.bank voltage).1.sag s.tracker.cycle (some count)
          ++ changed .unlocked (!s.tracker.locked) (!(s.tracker.handle s.bank voltage).1.locked) s.tracker.cycle
            (some count)) := by
  rw [State.track, changeOffers_cons, changeOffers_cons, changeOffers_nil, List.append_nil]
  rfl

/-- R90, R91: one countdown at the snapshot. -/
theorem Composer.countdown_eq (c : Composer) :
    c.countdown =
      { c with
        injActive := if (c.injActive && c.injCounted) = true then decide (2 ≤ c.injRemaining) else c.injActive
        injRemaining := if (c.injActive && c.injCounted) = true then c.injRemaining - 1 else c.injRemaining } := by
  rw [Composer.countdown]
  split
  next counts =>
    have left : decide (c.injRemaining - 1 ≠ 0) = decide (2 ≤ c.injRemaining) := decide_eq_decide.2 (by omega)
    rw [left]
  next => rfl

/-- R79, R81, R185: what the composer notes of a set, and the change of INJECTING. -/
theorem State.compose_eq (count : Nat) (out : Composed) :
    s.compose count out =
      State.offer
        { s with
          composer :=
            { s.composer with
              injActive := s.composer.countdown.injActive
              injRemaining := s.composer.countdown.injRemaining
              lastSource := some out.source
              qSeen := s.composer.qSeen || decide (out.source = .computed ∧ out.demand.qClamped = true)
              nSeen := s.composer.nSeen || decide (out.source = .computed ∧ out.demand.nScaled = true) }
          health := { s.health with blockedSeen := s.health.blockedSeen || decide (out.source = .blocked) } }
        (changed .injecting s.composer.injActive s.composer.countdown.injActive s.tracker.cycle (some count)) := by
  have computed (b : Bool) : (out.source == .computed && b) = decide (out.source = .computed ∧ b = true) := by
    rw [Bool.decide_and, Bool.decide_eq_true]
    rfl
  rw [State.compose, changeOffers_cons, changeOffers_nil, List.append_nil, Composer.noteSource, computed, computed,
    Composer.countdown_eq]
  rfl

/-- R95, R97: after the last word of the frame the stale run rises. -/
theorem State.leaveC_countStale_eq (count : Nat) :
    s.leaveC.countStale count =
      State.offer
        { s with
          linkC :=
            { s.linkC with
              staleRun := min 1024 (s.linkC.staleRun + 1)
              stale := s.linkC.stale || decide (s.bank.count .staleSets ≤ min 1024 (s.linkC.staleRun + 1)) }
          linkCOut := ⟨[], s.linkCOut.sent ++ s.linkCOut.handed⟩ }
        (changed .converterStale s.linkC.stale
          (s.linkC.stale || decide (s.bank.count .staleSets ≤ min 1024 (s.linkC.staleRun + 1))) s.tracker.cycle
          (some count)) := by
  rw [State.countStale, changeOffers_cons, changeOffers_nil, List.append_nil]
  rfl

/-! ### The values handed on (R12, R35, R66) -/

theorem voltageValues_of_main {b : Bank} {k : Fin 8} (set : ReleasedSet)
    (takes : (b.source k).enabled = true ∧ (b.source k).role = .voltageMain) :
    voltageValues b .main set = (set.sources[k]).map SetSource.values := by
  rw [voltageValues, (b.voltageSource_eq_some_iff (by decide) k).2 takes]
  rfl

theorem voltageValues_of_standby {b : Bank} {k : Fin 8} (set : ReleasedSet)
    (takes : (b.source k).enabled = true ∧ (b.source k).role = .voltageStandby) :
    voltageValues b .standby set = (set.sources[k]).map SetSource.values := by
  rw [voltageValues, (b.voltageSource_eq_some_iff (by decide) k).2 takes]
  rfl

theorem fedValues_getElem (set : ReleasedSet) (n : Fin 6) :
    (fedValues s set)[n] = feederValues s.bank s.intake.sources set n := by
  simp [fedValues]

theorem feederValues_of_source {b : Bank} {k : Fin 8} {n : Fin 6} (v : Vector SourceStatus 8) (set : ReleasedSet)
    (assigned : b.feederSource n = some k) :
    feederValues b v set n =
      if v[k].state = .active ∧ (b.profile n).mode ≠ .off then (set.sources[k]).map SetSource.values else none := by
  rw [feederValues, assigned]
  rfl

theorem feederValues_of_none {b : Bank} {n : Fin 6} (v : Vector SourceStatus 8) (set : ReleasedSet)
    (unassigned : b.feederSource n = none) : feederValues b v set n = none := by
  rw [feederValues, unassigned]

/-! ### The demand and the phase references (R72 to R80) -/

theorem sum_map_filter {α : Type} (p : α → Bool) (f : α → Int) (l : List α) :
    ((l.filter p).map f).sum = (l.map fun x => if p x = true then f x else 0).sum := by
  induction l with
  | nil => rfl
  | cons x rest ih => cases on : p x <;> simp [on, ih]

/-- R72, R73: a sum over the fed feeders of the modes that take part. -/
theorem sumFeeders_eq (b : Bank) (fed : Vector (Option Phases) 6) (use : Profile → Bool) (f : Fin 6 → Int) :
    sumFeeders b fed use f =
      ∑ n : Fin 6, if ((fed[n]).isSome && use (b.profile n)) = true then f n else 0 := by
  rw [sumFeeders, sum_map_filter, Fin.sum_univ_def]
  rfl

theorem Profile.isReactive_eq (p : Profile) : p.isReactive = [Mode.reactive, .full].contains p.mode := by
  rw [Profile.isReactive]
  cases p.mode <;> rfl

theorem Profile.isUnbalance_eq (p : Profile) : p.isUnbalance = [Mode.full].contains p.mode := by
  rw [Profile.isUnbalance]
  cases p.mode <;> rfl

/-- R79: the first source of a reference whose condition holds. -/
theorem State.chooseSource_eq :
    s.chooseSource =
      if s.composer.injActive then .inject
      else if s.linkC.blockLine || s.linkC.blockedFlag || s.linkC.stale then .blocked
      else if s.intake.voltage = .none ∨ s.tracker.locked = false ∨ s.store.tableFault = true then .hold
      else if s.supervision.quiet then .quiet
      else .computed := by
  have held : (s.cond .voltageLost || s.cond .unlocked || s.cond .tableFault) = true ↔
      s.intake.voltage = .none ∨ s.tracker.locked = false ∨ s.store.tableFault = true := by
    rw [Bool.or_eq_true, Bool.or_eq_true, or_assoc]
    exact or_congr beq_iff_eq (or_congr (Bool.not_eq_true' _ ▸ Iff.rfl) Iff.rfl)
  rw [State.chooseSource]
  refine ite_congr rfl (fun _ => rfl) fun _ => ite_congr rfl (fun _ => rfl) fun _ => ?_
  exact ite_congr (propext held) (fun _ => rfl) fun _ => rfl

theorem Phases.zero_inIu : Phases.zero.InIu := by decide

theorem phasesOf_inIu {x : Int} (y : Int) (range : InIu x) : (phasesOf x y).InIu :=
  ⟨range, saturate_inIu _, saturate_inIu _⟩

theorem phaseReferences_inIu (sn cs : Int) (qx nx ny : Int) : (phaseReferences sn cs qx nx ny).InIu :=
  phasesOf_inIu _ (saturate_inIu _)

theorem sentPhases_inIu (b : Bank) (i : Nat) {injection : Phases} (d : Demand) (src : RefSource)
    (range : injection.InIu) : (sentPhases b i injection d src).InIu := by
  cases src with
  | inject => exact range
  | blocked => exact Phases.zero_inIu
  | hold => exact Phases.zero_inIu
  | quiet => exact phaseReferences_inIu _ _ _ _ _
  | computed => exact phaseReferences_inIu _ _ _ _ _

/-- R80: the output index's cosine is read a quarter ahead, modulo 256. -/
theorem Bank.cosine_outputIndex (b : Bank) (i : Nat) :
    b.cosine (outputIndex b i) = b.sine ((i + b.count .lead + 64) % 256) := by
  rw [Bank.cosine, ← b.sine_mod, outputIndex, Nat.mod_add_mod]

/-! ### The reference frame (R96, R98, R191) -/

/-- R98: the monitor quantities in order. -/
theorem State.monitorValue_eq (d : Demand) (m : Nat) :
    s.monitorValue d m =
      ([0, s.tracker.vd, s.tracker.vq, s.tracker.integrator, d.qc, d.ndr, d.nqr, d.imax]
          ++ (feederNumbers.map fun n => (s.transform.averages n).iqPos)
          ++ [s.tracker.lastMean.getD 0, (s.tracker.lastStep.getD 0 : Nat)]).getD m 0 := by
  match m with
  | 0 | 1 | 2 | 3 | 4 | 5 | 6 | 7 | 8 | 9 | 10 | 11 | 12 | 13 | 14 | 15 => rfl
  | n + 16 => rfl

theorem quantityWord_strap (n : Nat) : wordOf n + bitWord 8 true = wordOf (n + 256) := by
  rw [bitWord_eq_wordOf, wordOf_add, Bool.toNat_true, Nat.one_mul]
  rfl

theorem quantityWord_selected (n : Nat) : wordOf n + bitWord 8 false = wordOf n := by
  rw [bitWord_eq_wordOf, wordOf_add, Bool.toNat_false, Nat.zero_mul, Nat.add_zero]

theorem State.sourceAndFlags_items (out : Composed) (held : Bool) :
    bitField 0 8 (s.sourceAndFlags out held) =
        [RefSource.inject, .blocked, .hold, .quiet, .computed].idxOf out.source + 1
      ∧ bitAt 8 (s.sourceAndFlags out held) = out.demand.qClamped
      ∧ bitAt 9 (s.sourceAndFlags out held) = out.demand.nScaled
      ∧ bitAt 10 (s.sourceAndFlags out held) = out.demand.capInForce
      ∧ bitAt 11 (s.sourceAndFlags out held) = out.demand.derated
      ∧ bitAt 12 (s.sourceAndFlags out held) = s.supervision.trip
      ∧ bitAt 13 (s.sourceAndFlags out held) = held
      ∧ bitField 14 2 (s.sourceAndFlags out held) = 0 := by
  have code := out.source.code_le
  have place : out.source.code = [RefSource.inject, .blocked, .hold, .quiet, .computed].idxOf out.source + 1 := by
    cases out.source <;> rfl
  have clamped := Bool.toNat_lt out.demand.qClamped
  have scaled := Bool.toNat_lt out.demand.nScaled
  have cap := Bool.toNat_lt out.demand.capInForce
  have derated := Bool.toNat_lt out.demand.derated
  have trip := Bool.toNat_lt s.supervision.trip
  have used := Bool.toNat_lt held
  rw [State.sourceAndFlags, ← place]
  simp only [bitWord_eq_wordOf, wordOf_add]
  refine ⟨?_, bitAt_wordOf (by omega), bitAt_wordOf (by omega), bitAt_wordOf (by omega), bitAt_wordOf (by omega),
    bitAt_wordOf (by omega), bitAt_wordOf (by omega), ?_⟩
  · rw [bitField_wordOf]
    omega
  · rw [bitField_wordOf]
    omega

end

/-- Settles O25: the blocks in turn, the values handed on, what is composed, and the frame. -/
theorem releasedSetSendsOneReferenceFrame : Obligations.ReleasedSetSendsOneReferenceFrame := by
  refine ⟨fun s x set => ?blocks, fun b v set => ⟨?lost, fun k enabled => ⟨?main, ?standby⟩⟩, fun s set n => ?feeders,
    fun s i fed => ?composed, fun s count out held => ?frame⟩
  case lost => rintro rfl; rfl
  case main => rintro rfl role; exact voltageValues_of_main set ⟨enabled, role⟩
  case standby => rintro rfl role; exact voltageValues_of_standby set ⟨enabled, role⟩
  case feeders =>
    intro b
    refine ⟨fun k enabled role feeder => ?_, fun unassigned => ?_⟩
    · rw [fedValues_getElem]
      exact feederValues_of_source _ set ((b.feederSource_eq_some_iff n k).2 ⟨enabled, role, feeder⟩)
    · rw [fedValues_getElem]
      exact feederValues_of_none _ set ((b.feederSource_eq_none_iff n).2 fun k enabled role feeder =>
        unassigned k ⟨enabled, role, feeder⟩)
  case blocks =>
    intro count held
    have holds (t : State) : heldActive set t.intake.sources = held t := heldActive_eq set _
    have used (n : Nat) : (n != 0) = decide (n ≠ 0) := by rw [Bool.eq_iff_iff, bne_iff_ne, decide_eq_true_iff]
    rw [State.handOn]
    refine congrArg ((s.intakeRelease set).pause x.updated) (funext fun t => ?_)
    rw [State.noteReleased_eq, holds, used]
    refine congrArg (State.pause _ x.noted) (funext fun u => ?_)
    rw [State.processSet]
    dsimp only
    rw [State.track_eq]
    refine congrArg (State.pause _ x.tracked) (funext fun v => ?_)
    refine congrArg (State.pause _ x.fed) (funext fun w => ?_)
    rw [State.compose_eq, Composer.countdown_eq]
    refine congrArg (State.pause _ x.composed) (funext fun y => ?_)
    refine congrArg (State.pause _ x.framed) (funext fun z => ?_)
    rw [State.leaveC_countStale_eq]
  case composed =>
    intro b out p fedAs share q nd nq d sn cs refs
    have reactive : reactiveSum b s.transform fed = q := by
      rw [reactiveSum, sumFeeders_eq]
      simp only [Profile.isReactive_eq]
      rfl
    have direct : unbalanceD b s.transform fed = nd := by
      rw [unbalanceD, sumFeeders_eq]
      simp only [Profile.isUnbalance_eq]
      rfl
    have quadrature : unbalanceQ b s.transform fed = nq := by
      rw [unbalanceQ, sumFeeders_eq]
      simp only [Profile.isUnbalance_eq]
      rfl
    have demand : out.demand = d := by
      have formed : out.demand = limitDemand b s.tracker.overvoltage s.linkC.derate s.linkC.capability
        (reactiveSum b s.transform fed) (unbalanceD b s.transform fed) (unbalanceQ b s.transform fed) := rfl
      rw [formed, reactive, direct, quadrature]
    have phases : p = sentPhases b i s.composer.injValues d out.source := by
      rw [← demand]
      rfl
    have referred (qx nx ny : Int) :
        phaseReferences (b.sine (outputIndex b i)) (b.cosine (outputIndex b i)) qx nx ny = refs qx nx ny := by
      rw [Bank.cosine_outputIndex]
      rfl
    refine ⟨demand, ?_, rfl, State.chooseSource_eq, fun range => ?_, fun inject => ?_, fun zero => ?_, fun quiet => ?_,
      fun computed => ?_⟩
    · rw [Bool.eq_iff_iff, decide_eq_true_iff]
      exact bne_iff_ne
    · rw [phases]
      exact sentPhases_inIu b i d _ range
    · rw [phases, inject]
      rfl
    · rw [phases]
      obtain blocked | hold := zero
      · rw [blocked]
        rfl
      · rw [hold]
        rfl
    · have low : 0 ≤ d.imax := effectiveLimit_nonneg b _ _
      have upper : 0 ≤ d.upper := (upperLimit_mem b _ low).1
      have order : -d.imax ≤ d.upper := by omega
      rw [phases, quiet, ← clampInt_eq_max_min order]
      exact referred _ 0 0
    · rw [phases, computed]
      exact referred _ _ _
  case frame =>
    obtain ⟨code, clamped, scaled, cap, derated, trip, used, reserved⟩ := s.sourceAndFlags_items out held
    refine ⟨s.sourceAndFlags out held, wordOf s.monitorQuantity.1 + bitWord 8 s.monitorQuantity.2,
      s.monitorQuantity.1, ?_, code, clamped, scaled, cap, derated, trip, used, reserved, fun strap => ?_,
      fun y chosen => ?_⟩
    · rw [← State.monitorValue_eq]
      rfl
    · rw [State.monitorQuantity, strap]
      exact ⟨rfl, quantityWord_strap _⟩
    · rw [State.monitorQuantity, chosen]
      exact ⟨rfl, quantityWord_selected _⟩

end Sys2Proof.Machine
